-- ==== Sys2Proof/Word.lean ====
section
/-! DEFINITION. The words of the part: bytes, 32-bit words, frames (spec/00_scope.md section 3). -/

namespace Sys2Proof

/-- One byte of a frame. -/
abbrev Byte := BitVec 8

/-- A word is 32 bits; bit 31 carries the first pattern bit (00_scope.md section 3). -/
abbrev Word := BitVec 32

/-- A whole frame, its bytes in wire order. -/
abbrev Frame := List Byte

/-- A number as the word that carries it (a result word is one unsigned number, R29, R30). -/
abbrev Word.ofNat (n : Nat) : Word := BitVec.ofNat 32 n

end Sys2Proof
end

