-- ==== Sys2Proof/Syntax.lean ====
section
/-! DEFINITION. The commands of the block: one constructor per row of spec/opcode_table.json. The rows of the
port, time and reset events carry what the event brings; the rows of the management commands carry nothing,
because the agent takes the control frame, with its argument words, from the head of the Command Queue
(R166; log 2). -/

namespace Sys2Proof

/-- A place one Timebase tick reaches (R130): a checker's silence timer or a gate. -/
inductive TickSite where
  | checker (stream : Fin 256)
  | gate (gate : Fin 4)
  deriving DecidableEq, Repr

/-- One command (event) of the block. -/
inductive Instr where
  /-- CLIENT_IN_ARRIVAL (R42, R43). -/
  | clientInArrival (lane : Fin 16) (frame : Frame)
  /-- LINE_IN_ARRIVAL (R44, R45); `forwardFirst` is the order of TAP's two effects (log 9). -/
  | lineInArrival (lane : Fin 16) (frame : Frame) (forwardFirst : Bool)
  /-- LINE_OUT_OPPORTUNITY (R47). -/
  | lineOutOpportunity (lane : Fin 16)
  /-- PACING_EXPIRY (R89, R91), the pacing step of one generator that expires (log 4). -/
  | pacingExpiry (stream : Fin 256)
  /-- RATE_INJECTION (R96), the rate source striking the word it is offered (log 4). -/
  | rateInjection (stream : Fin 256) (offered : Word)
  /-- CLIENT_OUT_OPPORTUNITY (R48, R167). -/
  | clientOutOpportunity (lane : Fin 16)
  /-- WAITING_REPLY_ENTRY (R167). -/
  | waitingReplyEntry
  /-- T1MS (R123, R130); `order` names the sites taken first (log 8). -/
  | t1ms (order : List TickSite)
  /-- T10MS (R130); `order` names the gates taken first (log 8). -/
  | t10ms (order : List (Fin 4))
  /-- T100MS (R130). -/
  | t100ms (order : List (Fin 4))
  /-- T1S (R130). -/
  | t1s (order : List (Fin 4))
  /-- SYNC_IN: one rising edge (R131). -/
  | syncIn (order : List (Fin 4))
  /-- SILENCE_EXPIRY (R124), the tick of one checker that expires (log 4). -/
  | silenceExpiry (stream : Fin 256)
  /-- INTERVAL_END (R139), the count event of one gate that ends its interval (log 4). -/
  | intervalEnd (gate : Fin 4)
  /-- GATE_OUT_PULSE_END (R144). -/
  | gateOutPulseEnd
  /-- CLEAR_COMPLETION (R74). -/
  | clearCompletion
  /-- WIPE_COMPLETION (R77). -/
  | wipeCompletion
  /-- HARDWARE_RESET: RESET_N has been low for 2 µs, or power-up (R172). -/
  | hardwareReset
  /-- RESET_RELEASE: the straps as sampled (R38, R172). -/
  | resetRelease (addr : BitVec 6) (lanes : BitVec 2)
  /-- UNKNOWN_COMMAND: execution of a frame of R166's orders 1 to 3. -/
  | unknownCommand
  | identify
  | echo
  | resetEngine
  | setStream
  | readStream
  | clearCounts
  | startGen
  | stopGen
  | setInject
  | injectOne
  | injectBurst
  | startChk
  | stopChk
  | restartChk
  | setLane
  | readLane
  | setWindow
  | loadWords
  | readSegment
  | clearSegment
  | wipeStore
  | definePattern
  | undefinePattern
  | freezePattern
  | readPattern
  | setGate
  | startGate
  | stopGate
  | readGate
  | fetchResults
  | releaseResults
  | setRing
  | readRing
  | readEvents
  | ackEvents
  | setEventPolicy
  deriving DecidableEq, Repr

end Sys2Proof
end

