-- ==== Sys2Proof/Config.lean ====
section
/-! DEFINITION. The sizes fixed for the part (spec/00_scope.md section 6, R169) and the one value the spec leaves open. -/

namespace Sys2Proof.Config

/-- Result Ring capacity (R147). -/
abbrev ringCapacity : Nat := 1024

/-- Holding buffer capacity, per lane and direction (R46). -/
abbrev bufferCapacity : Nat := 4

/-- Command Queue capacity (R165). -/
abbrev commandCapacity : Nat := 4

/-- Outbound Queue capacity (R168). -/
abbrev outboundCapacity : Nat := 8

/-- A notice enters the Outbound Queue only below this fill (R159, R168). -/
abbrev noticeShare : Nat := 6

/-- Clear Queue capacity (R69). -/
abbrev clearCapacity : Nat := 4

/-- Words in one segment (R68). -/
abbrev segmentWords : Nat := 256

/-- Words in the whole Pattern Store: 64 segments of 256. -/
abbrev storeWords : Nat := 16384

/-- Identity words of IDENTIFY (R169). -/
abbrev vendorCode : Word := 0x41A7
abbrev partCode : Word := 0x0E16
abbrev revision : Word := 2

/-- FREE VALUE (log 13): whether a short control body of 1 to 3 bytes echoes its first byte as the command
code or echoes 0. R27 says "when those bytes are present", R166 "when present"; nothing constrains it here. -/
opaque partialWordEcho : Bool

end Sys2Proof.Config
end

