-- ==== Sys2Proof/Machine/State.lean ====
section
/-! DEFINITION. Everything the spec gives the part to hold, as plain data, and its value after reset. -/

namespace Sys2Proof.Machine

/-- No event of the part stops it with a fault: every command is answered with a status (R166) and every event has
an effect or none, so there is no reason to list. -/
inductive Fault where
  deriving DecidableEq, Repr

/-- Why a step can be refused. -/
inductive Refusal where
  /-- Raised by exec alone, for a row without a meaning (safe: the machine stops). No row is left so. -/
  | notModelled (mnemonic : String)
  deriving DecidableEq, Repr

/-! ## Streams and the Stream Table -/

/-- The six PRBS kinds (R56). -/
inductive Prbs where
  | prbs7 | prbs9 | prbs11 | prbs15 | prbs23 | prbs31
  deriving DecidableEq, Repr

/-- The pattern kind with the field it uses; a field another kind uses is absent (R4). -/
inductive PatternKind where
  | prbs (p : Prbs)
  | fixed (word : Word)
  | user (pattern : Fin 32)
  deriving DecidableEq, Repr

/-- The configuration part of a stream record (R3 to R8). -/
structure StreamConfig where
  egressLane : Fin 16
  ingressLane : Fin 16
  kind : PatternKind
  invert : Bool
  payloadLen : Nat
  pacing : Nat
  gate : Fin 4
  leapLimit : Nat
  verifyCount : Nat
  lossCount : Nat
  badThreshold : Nat
  severeThreshold : Nat
  silenceTimeout : Nat
  deriving DecidableEq, Repr

/-- Generator states (R86). -/
inductive GenState where
  | idle | running | held
  deriving DecidableEq, Repr

/-- The generator part of a stream record (R10). -/
structure Generator where
  state : GenState
  countdown : Nat
  due : Bool
  nextSeq : BitVec 16
  pat : Word
  interval : Nat
  ditherMask : BitVec 4
  ditherPhase : BitVec 2
  injCountdown : Nat
  rotor : BitVec 5
  single : Bool
  burst : Nat
  framesSent : BitVec 32
  paceSlips : BitVec 32
  bitsInjected : BitVec 32
  deriving DecidableEq, Repr

/-- Sync states (R104). -/
inductive SyncState where
  | off | hunt | verify | locked | stale
  deriving DecidableEq, Repr

/-- The cumulative counter set (R13). -/
structure Cumulative where
  bits : BitVec 48
  errs : BitVec 48
  received : BitVec 32
  compared : BitVec 32
  errored : BitVec 32
  bad : BitVec 32
  lost : BitVec 32
  late : BitVec 32
  mismatches : BitVec 32
  resyncs : BitVec 32
  bursts : BitVec 32
  longest : BitVec 32
  histogram : Vector (BitVec 32) 8
  deriving DecidableEq, Repr

/-- The interval counter set (R15). -/
structure Interval where
  bits : BitVec 40
  errs : BitVec 40
  received : BitVec 32
  compared : BitVec 32
  errored : BitVec 32
  bad : BitVec 32
  lost : BitVec 32
  late : BitVec 32
  mismatches : BitVec 16
  resyncs : BitVec 16
  erroredTicks : BitVec 16
  severeTicks : BitVec 16
  unavailTicks : BitVec 16
  bursts : BitVec 16
  longest : BitVec 32
  deriving DecidableEq, Repr

/-- The checker part of a stream record (R11). -/
structure Checker where
  sync : SyncState
  expected : BitVec 16
  pat : Word
  progress : Nat
  badRun : Nat
  silence : Nat
  openBurst : BitVec 32
  tickErrors : BitVec 32
  tickUnlocked : Bool
  lateStart : Bool
  unlockedSeen : Bool
  staleSeen : Bool
  cum : Cumulative
  ivl : Interval
  deriving DecidableEq, Repr

/-- A set of event kinds: the kind with code c is bit c (R156). -/
abbrev KindSet := BitVec 16

/-- One stream record (R1, R2, R12). -/
structure Stream where
  configured : Bool
  config : StreamConfig
  gen : Generator
  chk : Checker
  events : KindSet
  deriving DecidableEq, Repr

/-! ## Lanes -/

/-- Egress modes (R40). -/
inductive EgressMode where
  | client | mixed | test
  deriving DecidableEq, Repr

/-- Ingress modes (R41). -/
inductive IngressMode where
  | forward | check | tap
  deriving DecidableEq, Repr

/-- The ten lane counters (R50). -/
structure LaneCounters where
  passed : BitVec 32
  dropped : BitVec 32
  displaced : BitVec 32
  testSent : BitVec 32
  forwarded : BitVec 32
  lineDropped : BitVec 32
  headerErrors : BitVec 32
  foreign : BitVec 32
  stray : BitVec 32
  delivered : BitVec 32
  deriving DecidableEq, Repr

/-- One lane (R39), with the model's latches of what its output ports sent last (log 14). -/
structure Lane where
  egress : EgressMode
  ingress : IngressMode
  egressBuf : List Frame
  ingressBuf : List Frame
  counters : LaneCounters
  lastServed : Fin 256
  lineOut : Option Frame
  clientOut : Option Frame
  deriving DecidableEq, Repr

/-- Tag window sizes (R33). -/
inductive WindowSize where
  | s32 | s64 | s128 | s256
  deriving DecidableEq, Repr

/-- The tag window (R33). -/
structure Window where
  base : BitVec 16
  size : WindowSize
  deriving DecidableEq, Repr

/-! ## The Pattern Store -/

/-- Segment states (R68). -/
inductive SegState where
  | blank | partly | full | clearQueued | clearing | faulted
  deriving DecidableEq, Repr

/-- One segment's state and fill (R68). -/
structure Segment where
  state : SegState
  fill : Nat
  deriving DecidableEq, Repr

/-- One Pattern Table entry (R78). -/
structure Pattern where
  ready : Bool
  first : Fin 64
  len : Nat
  frozen : Bool
  uses : Nat
  deriving DecidableEq, Repr

/-- The store's words: (256 · segment + offset, word), addresses strictly rising, no word 0 (log 7). -/
abbrev Memory := List (Nat × Word)

/-- Store modes (R69). -/
inductive StoreMode where
  | normal | wiping
  deriving DecidableEq, Repr

/-- The Pattern Store (R68, R69, R78). `clearing` is the clear machine: idle, or the segment it clears. -/
structure Store where
  segs : Vector Segment 64
  mem : Memory
  mode : StoreMode
  clearing : Option (Fin 64)
  clearQueue : List (Fin 64)
  patterns : Vector Pattern 32
  deriving DecidableEq, Repr

/-! ## Gates and the Result Ring -/

/-- Gate states (R132). -/
inductive GateState where
  | idle | armed | opened
  deriving DecidableEq, Repr

/-- Count event sources (R132). -/
inductive GateSource where
  | t1ms | t10ms | t100ms | t1s | syncIn | chain
  deriving DecidableEq, Repr

/-- Gate modes (R132). -/
inductive GateMode where
  | single | repeated
  deriving DecidableEq, Repr

/-- Arm qualifiers (R132). -/
inductive Qualifier where
  | nextCount | syncEdge
  deriving DecidableEq, Repr

/-- One gate (R132). The interval number is the one counter that wraps. -/
structure Gate where
  state : GateState
  source : GateSource
  length : Nat
  pendingLength : Option Nat
  count : Nat
  mode : GateMode
  qualifier : Qualifier
  marks : Bool
  number : BitVec 32
  deriving DecidableEq, Repr

/-- One interval record (R32), its sixteen words laid out by `recordWords`. -/
structure Record where
  stream : Fin 256
  gate : Fin 4
  endState : SyncState
  partialEnd : Bool
  lateStart : Bool
  unlockedSeen : Bool
  staleSeen : Bool
  number : BitVec 32
  counts : Interval
  deriving DecidableEq, Repr

/-- The Result Ring, records oldest first (R147). -/
structure Ring where
  records : List Record
  highWater : Nat
  appended : BitVec 32
  lost : BitVec 32
  deriving DecidableEq, Repr

/-! ## Events and the Management Agent -/

/-- Stream event kinds (R156). -/
inductive StreamKind where
  | lockGained | lockLost | stale | paceSlip | severeTick
  deriving DecidableEq, Repr

/-- Device event kinds (R156). -/
inductive DeviceKind where
  | ringHigh | ringLoss | clearDone | wipeDone | cmdOverrun | bufferDrop | gateEnd
  deriving DecidableEq, Repr

/-- An event kind. -/
inductive Kind where
  | stream (k : StreamKind)
  | device (k : DeviceKind)
  deriving DecidableEq, Repr

/-- Event policies (R157). -/
inductive Policy where
  | disabled | low | high
  deriving DecidableEq, Repr

/-- The Event Unit (R156 to R159): the policies stand in the order of R156's table. -/
structure EventUnit where
  device : KindSet
  listed : List (Fin 256)
  policies : Vector Policy 12
  drops : BitVec 32
  deriving DecidableEq, Repr

/-- A control frame in the Command Queue with its mark (R165). -/
structure ControlFrame where
  broadcast : Bool
  bytes : Frame
  deriving DecidableEq, Repr

/-- A frame in the Outbound Queue: a notice or a reply (R168). -/
structure OutFrame where
  notice : Bool
  bytes : Frame
  deriving DecidableEq, Repr

/-- The Management Agent (R165 to R168). -/
structure Agent where
  commands : List ControlFrame
  outbound : List OutFrame
  waiting : Option OutFrame
  overruns : BitVec 32
  deriving DecidableEq, Repr

/-! ## The whole part -/

/-- The state of the part. `inReset` says that a hardware reset is holding it (R172); `addr` and `lanesStrap` are
the straps as sampled; `ms` is the Timebase divider in whole milliseconds modulo 1000 (log 11); `pulses` counts the
GATE_OUT pulses running (R144); `injected` is the word the latest RATE_INJECTION left (log 14). -/
structure State where
  inReset : Bool
  addr : BitVec 6
  lanesStrap : BitVec 2
  ms : Nat
  streams : Vector Stream 256
  lanes : Vector Lane 16
  window : Window
  store : Store
  gates : Vector Gate 4
  pulses : Nat
  ring : Ring
  events : EventUnit
  agent : Agent
  injected : Word
  pending : List Instr
  deriving DecidableEq, Repr

/-! ## Reset values -/

/-- R21. -/
def StreamConfig.reset : StreamConfig where
  egressLane := 0
  ingressLane := 0
  kind := .prbs .prbs31
  invert := false
  payloadLen := 64
  pacing := 16
  gate := 0
  leapLimit := 3
  verifyCount := 3
  lossCount := 4
  badThreshold := 64
  severeThreshold := 1000
  silenceTimeout := 100

/-- R21, R103. -/
def Generator.reset : Generator where
  state := .idle
  countdown := 0
  due := false
  nextSeq := 0
  pat := 0
  interval := 0
  ditherMask := 0
  ditherPhase := 0
  injCountdown := 0
  rotor := 0
  single := false
  burst := 0
  framesSent := 0
  paceSlips := 0
  bitsInjected := 0

/-- Every counter 0 (R20, R21). -/
def Cumulative.zero : Cumulative where
  bits := 0
  errs := 0
  received := 0
  compared := 0
  errored := 0
  bad := 0
  lost := 0
  late := 0
  mismatches := 0
  resyncs := 0
  bursts := 0
  longest := 0
  histogram := Vector.replicate 8 0

/-- Every counter 0 (R15, R21). -/
def Interval.zero : Interval where
  bits := 0
  errs := 0
  received := 0
  compared := 0
  errored := 0
  bad := 0
  lost := 0
  late := 0
  mismatches := 0
  resyncs := 0
  erroredTicks := 0
  severeTicks := 0
  unavailTicks := 0
  bursts := 0
  longest := 0

/-- R21, R129. -/
def Checker.reset : Checker where
  sync := .off
  expected := 0
  pat := 0
  progress := 0
  badRun := 0
  silence := 0
  openBurst := 0
  tickErrors := 0
  tickUnlocked := false
  lateStart := false
  unlockedSeen := false
  staleSeen := false
  cum := .zero
  ivl := .zero

/-- R21. -/
def Stream.reset : Stream where
  configured := false
  config := .reset
  gen := .reset
  chk := .reset
  events := 0

/-- Every lane counter 0 (R50, R54). -/
def LaneCounters.zero : LaneCounters where
  passed := 0
  dropped := 0
  displaced := 0
  testSent := 0
  forwarded := 0
  lineDropped := 0
  headerErrors := 0
  foreign := 0
  stray := 0
  delivered := 0

/-- R54, hardware reset. -/
def Lane.reset : Lane where
  egress := .client
  ingress := .forward
  egressBuf := []
  ingressBuf := []
  counters := .zero
  lastServed := 255
  lineOut := none
  clientOut := none

/-- R33. -/
def Window.reset : Window where
  base := 0
  size := .s256

/-- R84. -/
def Segment.faulty : Segment where
  state := .faulted
  fill := 0

/-- R84. -/
def Pattern.reset : Pattern where
  ready := false
  first := 0
  len := 0
  frozen := false
  uses := 0

/-- R84: every segment FAULTED, its content unknown and unread (log 6). -/
def Store.reset : Store where
  segs := Vector.replicate 64 .faulty
  mem := []
  mode := .normal
  clearing := none
  clearQueue := []
  patterns := Vector.replicate 32 .reset

/-- R146. -/
def Gate.reset : Gate where
  state := .idle
  source := .t1s
  length := 1
  pendingLength := none
  count := 0
  mode := .repeated
  qualifier := .nextCount
  marks := false
  number := 0

/-- R155. -/
def Ring.reset : Ring where
  records := []
  highWater := 768
  appended := 0
  lost := 0

/-- R164. -/
def EventUnit.reset : EventUnit where
  device := 0
  listed := []
  policies := Vector.replicate 12 .low
  drops := 0

/-- R172, hardware reset. -/
def Agent.reset : Agent where
  commands := []
  outbound := []
  waiting := none
  overruns := 0

/-- The part right after a power-up reset has been released, with both straps sampled as 0: device address 0 and 4
populated lanes (DESIGN CHOICE, log 5). -/
def State.reset : State where
  inReset := false
  addr := 0
  lanesStrap := 0
  ms := 0
  streams := Vector.replicate 256 .reset
  lanes := Vector.replicate 16 .reset
  window := .reset
  store := .reset
  gates := Vector.replicate 4 .reset
  pulses := 0
  ring := .reset
  events := .reset
  agent := .reset
  injected := 0
  pending := []

end Sys2Proof.Machine
end

