-- ==== Sys2Proof/Machine/Flags.lean ====
section
/-! DEFINITION. Counters, codes and flags: saturation (R16), the counter updates of the checker (R13, R15, R112), the
burst histogram (R14), event kind codes and sets (R156), policies (R157). -/

namespace Sys2Proof.Machine

/-! ## Saturating counters -/

/-- A counter advanced by `d`, stopping at the largest value of its width (R16). -/
def satAdd {w : Nat} (c : BitVec w) (d : Nat) : BitVec w :=
  BitVec.ofNat w (min (c.toNat + d) (2 ^ w - 1))

/-- 1 when the condition holds, else 0. -/
def one (b : Bool) : Nat := if b then 1 else 0

/-! ## Counter sets -/

/-- What one event adds to the counters that both sets keep (R13, R15), bursts aside. -/
structure Tally where
  bits : Nat := 0
  errs : Nat := 0
  received : Nat := 0
  compared : Nat := 0
  errored : Nat := 0
  bad : Nat := 0
  lost : Nat := 0
  late : Nat := 0
  mismatches : Nat := 0
  resyncs : Nat := 0

/-- The cumulative set takes every update (R112). -/
def Cumulative.add (c : Cumulative) (t : Tally) : Cumulative :=
  { c with
    bits := satAdd c.bits t.bits
    errs := satAdd c.errs t.errs
    received := satAdd c.received t.received
    compared := satAdd c.compared t.compared
    errored := satAdd c.errored t.errored
    bad := satAdd c.bad t.bad
    lost := satAdd c.lost t.lost
    late := satAdd c.late t.late
    mismatches := satAdd c.mismatches t.mismatches
    resyncs := satAdd c.resyncs t.resyncs }

/-- The interval set with the same update (R15). -/
def Interval.add (c : Interval) (t : Tally) : Interval :=
  { c with
    bits := satAdd c.bits t.bits
    errs := satAdd c.errs t.errs
    received := satAdd c.received t.received
    compared := satAdd c.compared t.compared
    errored := satAdd c.errored t.errored
    bad := satAdd c.bad t.bad
    lost := satAdd c.lost t.lost
    late := satAdd c.late t.late
    mismatches := satAdd c.mismatches t.mismatches
    resyncs := satAdd c.resyncs t.resyncs }

/-- A checker's counter update: always in the cumulative set, and in the interval set when the stream's gate is OPEN
at the event that makes it (R112). -/
def Checker.tally (c : Checker) (gateOpen : Bool) (t : Tally) : Checker :=
  { c with
    cum := c.cum.add t
    ivl := if gateOpen then c.ivl.add t else c.ivl }

/-! ## Bursts -/

/-- The histogram bin of a burst length (R14). -/
def burstBin (len : Nat) : Fin 8 :=
  if len ≤ 1 then 0
  else if len ≤ 3 then 1
  else if len ≤ 7 then 2
  else if len ≤ 15 then 3
  else if len ≤ 63 then 4
  else if len ≤ 255 then 5
  else if len ≤ 1023 then 6
  else 7

/-- A closed burst in the cumulative set (R126). -/
def Cumulative.addBurst (c : Cumulative) (len : BitVec 32) : Cumulative :=
  { c with
    bursts := satAdd c.bursts 1
    longest := if c.longest < len then len else c.longest
    histogram := c.histogram.set (burstBin len.toNat) (satAdd c.histogram[burstBin len.toNat] 1) }

/-- A closed burst in the interval set, which keeps no histogram (R126). -/
def Interval.addBurst (c : Interval) (len : BitVec 32) : Interval :=
  { c with
    bursts := satAdd c.bursts 1
    longest := if c.longest < len then len else c.longest }

/-- The open burst closes, if there is one (R126). -/
def Checker.closeBurst (c : Checker) (gateOpen : Bool) : Checker :=
  if c.openBurst = 0 then c
  else
    { c with
      openBurst := 0
      cum := c.cum.addBurst c.openBurst
      ivl := if gateOpen then c.ivl.addBurst c.openBurst else c.ivl }

/-- The burst monitor takes one compared word, given its bit errors (R125). -/
def Checker.burstWord (c : Checker) (gateOpen : Bool) (errs : Nat) : Checker :=
  if errs = 0 then c.closeBurst gateOpen
  else { c with openBurst := satAdd c.openBurst 1 }

/-! ## Event kinds -/

/-- R156. -/
def StreamKind.code : StreamKind → Nat
  | .lockGained => 1
  | .lockLost => 2
  | .stale => 3
  | .paceSlip => 4
  | .severeTick => 5

/-- R156. -/
def DeviceKind.code : DeviceKind → Nat
  | .ringHigh => 8
  | .ringLoss => 9
  | .clearDone => 10
  | .wipeDone => 11
  | .cmdOverrun => 12
  | .bufferDrop => 13
  | .gateEnd => 14

/-- R156. -/
def Kind.code : Kind → Nat
  | .stream k => k.code
  | .device k => k.code

/-- The kind a code names, if it names one (R156). -/
def Kind.ofCode : Nat → Option Kind
  | 1 => some (.stream .lockGained)
  | 2 => some (.stream .lockLost)
  | 3 => some (.stream .stale)
  | 4 => some (.stream .paceSlip)
  | 5 => some (.stream .severeTick)
  | 8 => some (.device .ringHigh)
  | 9 => some (.device .ringLoss)
  | 10 => some (.device .clearDone)
  | 11 => some (.device .wipeDone)
  | 12 => some (.device .cmdOverrun)
  | 13 => some (.device .bufferDrop)
  | 14 => some (.device .gateEnd)
  | _ => none

/-- A kind's place in R156's table, which orders the policies. -/
def Kind.index : Kind → Fin 12
  | .stream .lockGained => 0
  | .stream .lockLost => 1
  | .stream .stale => 2
  | .stream .paceSlip => 3
  | .stream .severeTick => 4
  | .device .ringHigh => 5
  | .device .ringLoss => 6
  | .device .clearDone => 7
  | .device .wipeDone => 8
  | .device .cmdOverrun => 9
  | .device .bufferDrop => 10
  | .device .gateEnd => 11

/-- The set holding the kind of one code alone. -/
def kindBit (code : Nat) : KindSet := 1#16 <<< code

/-- A set holds the kind of this code. -/
def KindSet.has (set : KindSet) (code : Nat) : Bool := set.getLsbD code

/-- A set with the kind of this code added. -/
def KindSet.insert (set : KindSet) (code : Nat) : KindSet := set ||| kindBit code

/-- A set without the kinds of a mask (R162). -/
def KindSet.removeMask (set mask : KindSet) : KindSet := set &&& ~~~mask

/-- The bits of a stream set, 1 to 5 (R156). -/
abbrev streamKindMask : Nat := 0x003E

/-- The bits of the device set, 8 to 14 (R156). -/
abbrev deviceKindMask : Nat := 0x7F00

/-- R157. -/
def Policy.code : Policy → Nat
  | .disabled => 0
  | .low => 1
  | .high => 2

/-! ## Codes of the states software reads -/

/-- R19. -/
def GenState.code : GenState → Nat
  | .idle => 0
  | .running => 1
  | .held => 2

/-- R19. -/
def SyncState.code : SyncState → Nat
  | .off => 0
  | .hunt => 1
  | .verify => 2
  | .locked => 3
  | .stale => 4

/-- R40. -/
def EgressMode.code : EgressMode → Nat
  | .client => 0
  | .mixed => 1
  | .test => 2

/-- R41. -/
def IngressMode.code : IngressMode → Nat
  | .forward => 0
  | .check => 1
  | .tap => 2

/-- R68; the two clearing states have no code and are never read out. -/
def SegState.code : SegState → Nat
  | .blank => 0
  | .partly => 1
  | .full => 2
  | .clearQueued => 3
  | .clearing => 4
  | .faulted => 5

/-- R132. -/
def GateState.code : GateState → Nat
  | .idle => 0
  | .armed => 1
  | .opened => 2

/-- R132. -/
def GateSource.code : GateSource → Nat
  | .t1ms => 0
  | .t10ms => 1
  | .t100ms => 2
  | .t1s => 3
  | .syncIn => 4
  | .chain => 5

/-- R132. -/
def GateMode.code : GateMode → Nat
  | .single => 0
  | .repeated => 1

/-- R132. -/
def Qualifier.code : Qualifier → Nat
  | .nextCount => 0
  | .syncEdge => 1

/-- R33. -/
def WindowSize.value : WindowSize → Nat
  | .s32 => 32
  | .s64 => 64
  | .s128 => 128
  | .s256 => 256

/-! ## Activity -/

/-- A generator is active when RUNNING or HELD (R9). -/
def Generator.active (g : Generator) : Bool := g.state != .idle

/-- A checker is active in every sync state but OFF (R9). -/
def Checker.active (c : Checker) : Bool := c.sync != .off

/-- A stream has an active side (R9). -/
def Stream.active (r : Stream) : Bool := r.gen.active || r.chk.active

/-- A stream is a member of gate g when its gate field is g and its checker is active (R6). -/
def Stream.memberOf (r : Stream) (g : Fin 4) : Bool := r.config.gate == g && r.chk.active

end Sys2Proof.Machine
end

