-- ==== Sys2Proof/Machine/Formats.lean ====
section
/-! DEFINITION. Probe frames and records: the header and its check (R23 to R27), the verdicts of the Classifier (R25,
R34), the frames the part builds (R28, R30, R31) and the interval record's words (section 2.3). -/

namespace Sys2Proof.Machine

/-! ## Bytes and words -/

/-- A word as four bytes, most significant first. -/
def wordBytes (w : Word) : List Byte :=
  [(w >>> 24).setWidth 8, (w >>> 16).setWidth 8, (w >>> 8).setWidth 8, w.setWidth 8]

/-- Four bytes as a word, most significant first. -/
def bytesWord (a b c d : Byte) : Word := a ++ b ++ c ++ d

/-- Whole words of a run of bytes; an incomplete last word is left out. -/
def bytesWords : List Byte → List Word
  | a :: b :: c :: d :: t => bytesWord a b c d :: bytesWords t
  | _ => []

/-- The two bytes of a 16-bit field, most significant first. -/
def halfBytes (h : BitVec 16) : List Byte := [(h >>> 8).setWidth 8, h.setWidth 8]

/-! ## The header check (R24) -/

/-- One bit step of the CRC register: polynomial 07h. -/
def crcBit (r : Byte) : Byte := if r.msb then (r <<< 1) ^^^ 7#8 else r <<< 1

/-- One byte entering the CRC register. -/
def crcByte (r b : Byte) : Byte := Nat.repeat crcBit 8 (r ^^^ b)

/-- CRC-8 over a run of bytes, the register starting at 0. -/
def crc8 (bs : List Byte) : Byte := bs.foldl crcByte 0

end Sys2Proof.Machine

namespace Sys2Proof

/-! ## Header fields (R26, section 2.3) -/

/-- Byte `i` of a frame. -/
def Frame.byte (f : Frame) (i : Nat) : Byte := f.getD i 0

/-- R23: the first two bytes are B7h and then E2h. -/
def Frame.hasMarker : Frame → Bool
  | a :: b :: _ => a == 0xB7#8 && b == 0xE2#8
  | _ => false

/-- Kind nibble (byte 2, bits 7–4). -/
def Frame.kind (f : Frame) : Nat := (f.byte 2).toNat / 16

/-- Version nibble (byte 2, bits 3–0). -/
def Frame.version (f : Frame) : Nat := (f.byte 2).toNat % 16

/-- Address (byte 3, bits 5–0). -/
def Frame.address (f : Frame) : BitVec 6 := (f.byte 3).setWidth 6

/-- Tag (bytes 4–5). -/
def Frame.tag (f : Frame) : BitVec 16 := f.byte 4 ++ f.byte 5

/-- Sequence (bytes 6–7). -/
def Frame.sequence (f : Frame) : BitVec 16 := f.byte 6 ++ f.byte 7

/-- Offset (bytes 8–11). -/
def Frame.offset (f : Frame) : Word := Machine.bytesWord (f.byte 8) (f.byte 9) (f.byte 10) (f.byte 11)

/-- Length field (byte 12). -/
def Frame.lengthField (f : Frame) : Nat := (f.byte 12).toNat

/-- The body: the bytes after byte 13 (R27). -/
def Frame.body (f : Frame) : List Byte := f.drop 14

/-- R27: the body holds fewer than 4 × length bytes. -/
def Frame.short (f : Frame) : Bool := decide (f.body.length < 4 * f.lengthField)

/-- The declared body words; bytes beyond them are ignored (R27). -/
def Frame.words (f : Frame) : List Word := Machine.bytesWords (f.body.take (4 * f.lengthField))

/-- R25's four tests: a valid probe header. -/
def Frame.validHeader (f : Frame) : Bool :=
  decide (14 ≤ f.length) && Machine.crc8 (f.take 13) == f.byte 13 && (decide (1 ≤ f.kind) && decide (f.kind ≤ 4))
    && f.version == 1

end Sys2Proof

namespace Sys2Proof.Machine

/-! ## Verdicts (R25, R34) -/

/-- Kind codes of section 2.3. -/
abbrev kindTest : Nat := 1
abbrev kindControl : Nat := 2
abbrev kindReply : Nat := 3
abbrev kindNotice : Nat := 4

/-- The Classifier's verdict. -/
inductive Verdict where
  | notProbe
  | headerError
  | management (control : Bool)
  | testDecoded (stream : Fin 256)
  | testForeign
  deriving DecidableEq, Repr

/-- A tag decoded through the window (R34). -/
def Window.decode (w : Window) (tag : BitVec 16) : Option (Fin 256) :=
  if (tag - w.base).toNat < w.size.value then some (Fin.ofNat 256 (tag - w.base).toNat) else none

/-- The tag of stream s (R35). -/
def Window.stamp (w : Window) (s : Fin 256) : BitVec 16 := w.base + BitVec.ofNat 16 s.val

/-- The verdict on a frame under the window in force (R23, R25, R34). -/
def classify (w : Window) (f : Frame) : Verdict :=
  if !f.hasMarker then .notProbe
  else if !f.validHeader then .headerError
  else if f.kind == kindTest then
    match w.decode f.tag with
    | some s => .testDecoded s
    | none => .testForeign
  else .management (f.kind == kindControl)

/-! ## Frames the part builds (R28, R30, R31) -/

/-- A complete frame: header with its check, then the body words. -/
def buildFrame (kind : Nat) (addr : BitVec 6) (tag seq : BitVec 16) (offset : Word) (body : List Word) : Frame :=
  let h : List Byte :=
    [0xB7#8, 0xE2#8, BitVec.ofNat 8 (16 * kind + 1), addr.setWidth 8] ++ halfBytes tag ++ halfBytes seq
      ++ wordBytes offset ++ [BitVec.ofNat 8 body.length]
  h ++ [crc8 h] ++ body.flatMap wordBytes

/-- A reply's body (R30): code echo, status and result count, then the result words. -/
def replyBody (echo : Byte) (status : Nat) (results : List Word) : List Word :=
  (echo ++ BitVec.ofNat 8 status ++ BitVec.ofNat 16 results.length : BitVec 32) :: results

/-- A notice's body (R31). -/
def noticeBody (code : Nat) (scope : BitVec 16) (d1 d2 : Word) : List Word :=
  [(BitVec.ofNat 8 code ++ 0#8 ++ scope : BitVec 32), d1, d2]

/-! ## The interval record (section 2.3) -/

/-- The two words of a wide counter, the more significant first (R19). -/
def wideWords {w : Nat} (c : BitVec w) : List Word := [(c >>> 32).setWidth 32, c.setWidth 32]

/-- Two 16-bit counters in one word. -/
def pairWord (hi lo : BitVec 16) : Word := hi ++ lo

/-- The sixteen words of an interval record. -/
def recordWords (r : Record) : List Word :=
  [ BitVec.ofNat 32
      (r.stream.val * 2 ^ 24 + r.gate.val * 2 ^ 22 + r.endState.code * 2 ^ 19 + one r.partialEnd * 8
        + one r.lateStart * 4 + one r.unlockedSeen * 2 + one r.staleSeen),
    r.number ]
  ++ wideWords r.counts.bits ++ wideWords r.counts.errs
  ++ [ r.counts.received, r.counts.compared, r.counts.errored, r.counts.bad, r.counts.lost, r.counts.late,
       pairWord r.counts.mismatches r.counts.resyncs, pairWord r.counts.erroredTicks r.counts.severeTicks,
       pairWord r.counts.unavailTicks r.counts.bursts, r.counts.longest ]

end Sys2Proof.Machine
end

