-- ==== Sys2Proof/Machine/Operands.lean ====
section
/-! DEFINITION. The operand forms: control frames, their command rows and argument words (R27, R29, R166), the statuses
(R166), a command's answer, and the ordered checks of the commands' tables. -/

namespace Sys2Proof.Machine

/-! ## Statuses and answers -/

/-- The statuses of R166's table. -/
inductive Status where
  | ok | started | unknownCommand | badLength | outOfRange | noLane | notConfigured | active | notActive | outOfWindow
  | windowInUse | notReady | spanInvalid | pinned | frozen | segmentBusy | segmentFull | alreadyClearing | queueFull
  | storeBusy | injectPending | gateState | ringShort | faulted
  deriving DecidableEq, Repr

/-- Status codes (R166). -/
def Status.code : Status → Nat
  | .ok => 0
  | .started => 1
  | .unknownCommand => 2
  | .badLength => 3
  | .outOfRange => 4
  | .noLane => 5
  | .notConfigured => 6
  | .active => 7
  | .notActive => 8
  | .outOfWindow => 9
  | .windowInUse => 10
  | .notReady => 11
  | .spanInvalid => 12
  | .pinned => 13
  | .frozen => 14
  | .segmentBusy => 15
  | .segmentFull => 16
  | .alreadyClearing => 17
  | .queueFull => 18
  | .storeBusy => 19
  | .injectPending => 20
  | .gateState => 21
  | .ringShort => 22
  | .faulted => 23

/-- What a command answers: its status and its result words (R30). -/
structure Answer where
  status : Status
  words : List Word
  deriving DecidableEq, Repr

/-- Status OK with these result words. -/
def Answer.good (ws : List Word) : Answer := ⟨.ok, ws⟩

/-- Status STARTED with these result words. -/
def Answer.begun (ws : List Word) : Answer := ⟨.started, ws⟩

/-- A refused command returns no result words (R30). -/
def Answer.fail (st : Status) : Answer := ⟨st, []⟩

/-- A command's checks in order: the first that fails gives the status. -/
def firstFail : List (Bool × Status) → Option Status
  | [] => none
  | (true, _) :: t => firstFail t
  | (false, st) :: _ => some st

/-! ## Argument words (R29) -/

/-- A range check on an argument word read as one unsigned number. -/
def inRange (w : Word) (lo hi : Nat) : Bool := decide (lo ≤ w.toNat) && decide (w.toNat ≤ hi)

/-- An argument word that has passed its range check, as a table index. -/
def index (n : Nat) [NeZero n] (w : Word) : Fin n := Fin.ofNat n w.toNat

/-- The pattern kind and the field it uses, from SET_STREAM's arguments 4, 6 and 7 after their checks (R4, R17). -/
def patternKindOf (kind fixed user : Word) : PatternKind :=
  match kind.toNat with
  | 0 => .prbs .prbs7
  | 1 => .prbs .prbs9
  | 2 => .prbs .prbs11
  | 3 => .prbs .prbs15
  | 4 => .prbs .prbs23
  | 5 => .prbs .prbs31
  | 6 => .fixed fixed
  | _ => .user (index 32 user)

/-- R40's codes, after the check. -/
def egressModeOf (w : Word) : EgressMode :=
  match w.toNat with
  | 0 => .client
  | 1 => .mixed
  | _ => .test

/-- R41's codes, after the check. -/
def ingressModeOf (w : Word) : IngressMode :=
  match w.toNat with
  | 0 => .forward
  | 1 => .check
  | _ => .tap

/-- R132's source codes, after the check. -/
def gateSourceOf (w : Word) : GateSource :=
  match w.toNat with
  | 0 => .t1ms
  | 1 => .t10ms
  | 2 => .t100ms
  | 3 => .t1s
  | 4 => .syncIn
  | _ => .chain

/-- R132's mode codes, after the check. -/
def gateModeOf (w : Word) : GateMode := if w.toNat = 0 then .single else .repeated

/-- R132's qualifier codes, after the check. -/
def qualifierOf (w : Word) : Qualifier := if w.toNat = 0 then .nextCount else .syncEdge

/-- R157's policy codes, after the check. -/
def policyOf (w : Word) : Policy :=
  match w.toNat with
  | 0 => .disabled
  | 1 => .low
  | _ => .high

/-- A tag window size argument, if it is one of the four (R36). -/
def windowSizeOf (w : Word) : Option WindowSize :=
  match w.toNat with
  | 32 => some .s32
  | 64 => some .s64
  | 128 => some .s128
  | 256 => some .s256
  | _ => none

/-! ## Control frames (R27, R166) -/

/-- R166 orders 1 and 2: the length field is 0 or the body is short. -/
def ControlFrame.badBody (f : ControlFrame) : Bool := f.bytes.lengthField == 0 || f.bytes.short

/-- The top byte of body word 0. -/
def ControlFrame.topByte (f : ControlFrame) : Byte := f.bytes.byte 14

/-- The code echo of R166's orders 1 and 2; for a body of 1 to 3 bytes the spec leaves it open (log 13). -/
def ControlFrame.badBodyEcho (f : ControlFrame) : Byte :=
  if f.bytes.lengthField = 0 then 0
  else if 4 ≤ f.bytes.body.length then f.topByte
  else if f.bytes.body.length = 0 then 0
  else if Config.partialWordEcho then f.topByte
  else 0

/-- The argument words: body words 1 onward (R29). -/
def ControlFrame.args (f : ControlFrame) : List Word := f.bytes.words.tail

/-- The row of a command code (R166's command index); a code of no command is UNKNOWN_COMMAND's. -/
def rowOfCode : Nat → Instr
  | 0x01 => .identify
  | 0x02 => .echo
  | 0x03 => .resetEngine
  | 0x10 => .setStream
  | 0x11 => .readStream
  | 0x12 => .clearCounts
  | 0x18 => .startGen
  | 0x19 => .stopGen
  | 0x1A => .setInject
  | 0x1B => .injectOne
  | 0x1C => .injectBurst
  | 0x20 => .startChk
  | 0x21 => .stopChk
  | 0x22 => .restartChk
  | 0x28 => .setLane
  | 0x29 => .readLane
  | 0x2A => .setWindow
  | 0x30 => .loadWords
  | 0x31 => .readSegment
  | 0x32 => .clearSegment
  | 0x33 => .wipeStore
  | 0x34 => .definePattern
  | 0x35 => .undefinePattern
  | 0x36 => .freezePattern
  | 0x37 => .readPattern
  | 0x40 => .setGate
  | 0x41 => .startGate
  | 0x42 => .stopGate
  | 0x43 => .readGate
  | 0x48 => .fetchResults
  | 0x49 => .releaseResults
  | 0x4A => .setRing
  | 0x4B => .readRing
  | 0x50 => .readEvents
  | 0x51 => .ackEvents
  | 0x52 => .setEventPolicy
  | _ => .unknownCommand

/-- The row that the execution of a control frame is (R166). -/
def ControlFrame.row (f : ControlFrame) : Instr :=
  if f.badBody then .unknownCommand else rowOfCode f.topByte.toNat

end Sys2Proof.Machine
end

