-- ==== Sys2Proof/Machine/Tables.lean ====
section
/-! DEFINITION. Operations on the part's fixed tables (streams, lanes, gates, segments, patterns). Each goes through
the table's list, so that the kernel can evaluate it. -/

namespace Sys2Proof.Machine

/-- Every entry of a table changed by `f`. -/
def tableMap {α : Type} {n : Nat} (f : α → α) (v : Vector α n) : Vector α n :=
  ⟨⟨v.toArray.toList.map f⟩, by simp⟩

/-- One entry of a table changed by `f`. -/
def tableModify {α : Type} {n : Nat} (v : Vector α n) (i : Fin n) (f : α → α) : Vector α n :=
  v.set i (f v[i])

/-- The indexes of a table in increasing order. -/
def indexes (n : Nat) : List (Fin n) := List.finRange n

/-- The indexes of the entries for which `p` holds, in increasing order. One pass over the table. -/
def tableWhere {α : Type} {n : Nat} (p : α → Bool) (v : Vector α n) : List (Fin n) :=
  ((indexes n).zip v.toArray.toList).filterMap (fun e => if p e.2 then some e.1 else none)

/-- An order of sites made whole: the sites `first` names, each once, then the others in their own order. -/
def completeOrder {α : Type} [DecidableEq α] (first all : List α) : List α :=
  (first.eraseDups.filter (fun x => decide (x ∈ all))) ++ all.filter (fun x => decide (x ∉ first))

end Sys2Proof.Machine
end

