-- ==== Sys2Proof/Machine/Ops.lean ====
section
/-! DEFINITION. The named operations over the state: its tables, raising an event (R158, R159), answering a command and
the one way every management command executes (R166, R167). -/

namespace Sys2Proof.Machine

/-- The outcome type of every meaning. -/
abbrev Result := Host.Outcome State Fault Refusal

/-! ## Tables of the state -/

def State.stream (s : State) (i : Fin 256) : Stream := s.streams[i]
def State.lane (s : State) (l : Fin 16) : Lane := s.lanes[l]
def State.gate (s : State) (g : Fin 4) : Gate := s.gates[g]

def State.setStream (s : State) (i : Fin 256) (r : Stream) : State := { s with streams := s.streams.set i r }
def State.setGen (s : State) (i : Fin 256) (g : Generator) : State := s.setStream i { s.stream i with gen := g }
def State.setChk (s : State) (i : Fin 256) (c : Checker) : State := s.setStream i { s.stream i with chk := c }
def State.mapStreams (s : State) (f : Stream → Stream) : State := { s with streams := tableMap f s.streams }
def State.setLane (s : State) (l : Fin 16) (n : Lane) : State := { s with lanes := s.lanes.set l n }
def State.countLane (s : State) (l : Fin 16) (f : LaneCounters → LaneCounters) : State :=
  s.setLane l { s.lane l with counters := f (s.lane l).counters }
def State.setGate (s : State) (g : Fin 4) (n : Gate) : State := { s with gates := s.gates.set g n }
def State.setStore (s : State) (st : Store) : State := { s with store := st }
def State.setRing (s : State) (r : Ring) : State := { s with ring := r }
def State.setEvents (s : State) (e : EventUnit) : State := { s with events := e }
def State.setAgent (s : State) (a : Agent) : State := { s with agent := a }

/-- Populated lanes (R38). -/
def State.populated (s : State) : Nat := 4 * (s.lanesStrap.toNat + 1)

/-- A lane whose number is below the populated count is present (R38). -/
def State.present (s : State) (l : Fin 16) : Bool := decide (l.val < s.populated)

/-- The part takes events of a lane's ports: no reset holds it, and the lane is present (R38, R172). -/
def State.takes (s : State) (l : Fin 16) : Bool := !s.inReset && s.present l

/-- The gate a stream reports to is OPEN (R112). -/
def State.gateOpenFor (s : State) (r : Stream) : Bool := (s.gate r.config.gate).state == .opened

/-! ## Events and notices (R157 to R159) -/

/-- The policy of a kind. -/
def State.policy (s : State) (k : Kind) : Policy := s.events.policies[k.index]

/-- A built notice enters the Outbound Queue when it holds fewer than 6 frames, and is dropped and counted otherwise
(R159). -/
def State.notify (s : State) (code : Nat) (scope : BitVec 16) (d1 d2 : Word) : State :=
  if s.agent.outbound.length < Config.noticeShare then
    s.setAgent
      { s.agent with
        outbound := s.agent.outbound ++
          [⟨true, buildFrame kindNotice s.addr 0 0 0 (noticeBody code scope d1 d2)⟩] }
  else s.setEvents { s.events with drops := satAdd s.events.drops 1 }

/-- A raise of a device kind with its notice's detail words (R158, R31). -/
def State.raiseDevice (s : State) (k : DeviceKind) (d1 d2 : Word) : State :=
  if s.policy (.device k) = .disabled then s
  else if s.events.device.has k.code then s
  else
    let s1 := s.setEvents { s.events with device := s.events.device.insert k.code }
    if s.policy (.device k) = .high then s1.notify k.code 0xFFFF d1 d2 else s1

/-- A raise of a stream kind (R158). A stream whose set was empty joins the Pending Stream List at its tail. -/
def State.raiseStream (s : State) (i : Fin 256) (k : StreamKind) : State :=
  if s.policy (.stream k) = .disabled then s
  else if (s.stream i).events.has k.code then s
  else
    let listed := if (s.stream i).events = 0 then s.events.listed ++ [i] else s.events.listed
    let s1 := (s.setStream i { s.stream i with events := (s.stream i).events.insert k.code }).setEvents
      { s.events with listed := listed }
    if s.policy (.stream k) = .high then s1.notify k.code (BitVec.ofNat 16 i.val) 0 0 else s1

/-- Several raises of one stream, in order. -/
def State.raiseAll (s : State) (i : Fin 256) (ks : List StreamKind) : State :=
  ks.foldl (fun s k => s.raiseStream i k) s

/-! ## Replies and the execution of a command (R166, R167) -/

/-- A reply joins the Outbound Queue below 8 frames and waits otherwise (R167, R168). -/
def State.sendReply (s : State) (r : Frame) : State :=
  if s.agent.outbound.length < Config.outboundCapacity then
    s.setAgent { s.agent with outbound := s.agent.outbound ++ [⟨false, r⟩] }
  else s.setAgent { s.agent with waiting := some ⟨false, r⟩ }

/-- The reply frame to a control frame (R28, R30, R167). -/
def replyFrame (addr : BitVec 6) (f : ControlFrame) (echo : Byte) (a : Answer) : Frame :=
  buildFrame kindReply addr f.bytes.tag 0 0 (replyBody echo a.status.code a.words)

/-- The end of an execution: a frame addressed to the part itself is answered, a broadcast frame is not (R167). -/
def State.answer (s : State) (f : ControlFrame) (echo : Byte) (a : Answer) : State :=
  if f.broadcast then s else s.sendReply (replyFrame s.addr f echo a)

/-- The frame the agent can execute now, with the queue behind it: the head of the Command Queue while no reply waits
and no reset holds the part (R166, R172). -/
def State.ready (s : State) : Option (ControlFrame × List ControlFrame) :=
  if s.inReset then none
  else
    match s.agent.waiting, s.agent.commands with
    | none, f :: rest => some (f, rest)
    | _, _ => none

/-- The state as the execution finds it: the frame has left the Command Queue (R165). -/
def State.dequeue (s : State) (rest : List ControlFrame) : State := s.setAgent { s.agent with commands := rest }

/-- The execution of a command row: the frame at the head of the Command Queue, when it is of this row, is taken and
executed by `act` on its argument words, and answered (R166). Where the agent has no such frame to execute, the event
does not arise and the state is unchanged (log 1). -/
def runCommand (row : Instr) (act : List Word → State → Answer × State) (s : State) : Result :=
  match s.ready with
  | none => .next s
  | some (f, rest) =>
    if f.row = row then
      let r := act f.args (s.dequeue rest)
      .next (r.2.answer f f.topByte r.1)
    else .next s

/-- A command's checks, and its action when they all pass; a refused command changes nothing (R166). -/
def checked (checks : List (Bool × Status)) (s : State) (k : Answer × State) : Answer × State :=
  match firstFail checks with
  | some st => (.fail st, s)
  | none => k

/-- The answer to an argument count the command does not accept (R166, order 4). -/
def badLength (s : State) : Answer × State := (.fail .badLength, s)

/-! ## Use counts (R83) -/

/-- A use count changed when the stream's kind is USER. -/
def Store.use (st : Store) (kind : PatternKind) (f : Nat → Nat) : Store :=
  match kind with
  | .user p => { st with patterns := tableModify st.patterns p (fun e => { e with uses := f e.uses }) }
  | .prbs _ => st
  | .fixed _ => st

/-- The user pattern a start needs is READY (R83). -/
def Store.patternReady (st : Store) (kind : PatternKind) : Bool :=
  match kind with
  | .user p => st.patterns[p].ready
  | .prbs _ => true
  | .fixed _ => true

end Sys2Proof.Machine
end

