-- ==== Sys2Proof/Machine/Events.lean ====
section
/-! DEFINITION. The Event Unit's commands (R161 to R163). -/

namespace Sys2Proof.Machine

/-- READ_EVENTS's words: the device set, the drop count, the list's length, and up to 32 listed streams (R161). -/
def eventWords (s : State) : List Word :=
  [s.events.device.setWidth 32, s.events.drops, Word.ofNat s.events.listed.length]
    ++ (s.events.listed.take 32).flatMap (fun i => [Word.ofNat i.val, (s.stream i).events.setWidth 32])

/-- READ_EVENTS's action (R161). -/
def readEventsAct : List Word → State → Answer × State
  | [], s => (.good (eventWords s), s)
  | _, s => badLength s

/-- A stream's set without the kinds of a mask; emptied, the stream leaves the list (R158, R162). -/
def ackStream (s : State) (i : Fin 256) (mask : KindSet) : State :=
  let set := (s.stream i).events.removeMask mask
  (s.setStream i { s.stream i with events := set }).setEvents
    { s.events with listed := if set = 0 then s.events.listed.filter (· != i) else s.events.listed }

/-- The device set without the kinds of a mask (R162). -/
def ackDevice (s : State) (mask : KindSet) : State :=
  s.setEvents { s.events with device := s.events.device.removeMask mask }

/-- No bit of the mask lies outside the allowed ones (R162, check 2). -/
def maskWithin (mask : Word) (allowed : Nat) : Bool := mask &&& ~~~(BitVec.ofNat 32 allowed) == 0

/-- ACK_EVENTS's checks and action (R162). -/
def ackEventsAct : List Word → State → Answer × State
  | [scope, mask], s =>
    if scope = 0xFFFF then
      checked [(maskWithin mask deviceKindMask, .outOfRange)] s
        (.good [(ackDevice s (mask.setWidth 16)).events.device.setWidth 32], ackDevice s (mask.setWidth 16))
    else
      let i := index 256 scope
      let s1 := ackStream s i (mask.setWidth 16)
      checked
        [ (inRange scope 0 255, .outOfRange),
          (maskWithin mask streamKindMask, .outOfRange) ]
        s (.good [(s1.stream i).events.setWidth 32], s1)
  | _, s => badLength s

/-- A kind removed from every pending set at its change to DISABLED; streams left with an empty set leave the list
(R163). -/
def withdrawKind (s : State) (k : Kind) : State :=
  match k with
  | .device k => ackDevice s (kindBit k.code)
  | .stream k =>
    let s1 := s.mapStreams (fun r => { r with events := r.events.removeMask (kindBit k.code) })
    s1.setEvents { s1.events with listed := s1.events.listed.filter (fun i => (s1.stream i).events != 0) }

/-- A kind's new policy (R163). -/
def setPolicy (s : State) (k : Kind) (p : Policy) : State :=
  let s1 := s.setEvents { s.events with policies := s.events.policies.set k.index p }
  if p = .disabled then withdrawKind s1 k else s1

/-- SET_EVENT_POLICY's checks and action (R163). -/
def setEventPolicyAct : List Word → State → Answer × State
  | [wk, wp], s =>
    match Kind.ofCode wk.toNat with
    | none => (.fail .outOfRange, s)
    | some k =>
      checked [(inRange wp 0 2, .outOfRange)] s
        (.good [Word.ofNat (s.policy k).code], setPolicy s k (policyOf wp))
  | _, s => badLength s

/-- READ_EVENTS (R161). -/
def execReadEvents (s : State) : Result := runCommand .readEvents readEventsAct s

/-- ACK_EVENTS (R162). -/
def execAckEvents (s : State) : Result := runCommand .ackEvents ackEventsAct s

/-- SET_EVENT_POLICY (R163). -/
def execSetEventPolicy (s : State) : Result := runCommand .setEventPolicy setEventPolicyAct s

end Sys2Proof.Machine
end

