-- ==== Sys2Proof/Machine/Memory.lean ====
section
/-! DEFINITION. The words of the Pattern Store (R68), in one canonical form (log 7). -/

namespace Sys2Proof.Machine

/-- The key of word `off` of segment `seg`. -/
def wordAddr (seg off : Nat) : Nat := Config.segmentWords * seg + off

/-- A word; what nothing lists reads as 0, as a completed clear leaves it (R74; log 6). -/
def Memory.read : Memory → Nat → Word
  | [], _ => 0
  | (b, v) :: t, a => if a = b then v else Memory.read t a

/-- A word written; writing 0 removes the entry. -/
def Memory.write : Memory → Nat → Word → Memory
  | [], a, w => if w = 0 then [] else [(a, w)]
  | (b, v) :: t, a, w =>
    if a < b then (if w = 0 then (b, v) :: t else (a, w) :: (b, v) :: t)
    else if a = b then (if w = 0 then t else (a, w) :: t)
    else (b, v) :: Memory.write t a w

/-- Words written at `a`, `a + 1` and onward (R70). -/
def Memory.writeAll : Memory → Nat → List Word → Memory
  | m, _, [] => m
  | m, a, w :: ws => Memory.writeAll (m.write a w) (a + 1) ws

/-- The 256 words of a segment set to zero (R74). -/
def Memory.clearSegment (m : Memory) (seg : Nat) : Memory :=
  m.filter (fun c => c.1 / Config.segmentWords != seg)

/-- `n` words read from `a` on. -/
def Memory.readAll (m : Memory) (a n : Nat) : List Word :=
  (List.range n).map (fun k => m.read (a + k))

/-- The canonical form: addresses strictly rising and inside the store, no entry 0. -/
def Memory.wf : Memory → Bool
  | [] => true
  | [(a, v)] => decide (a < Config.storeWords) && v != 0
  | (a, v) :: (b, w) :: t => decide (a < b) && v != 0 && Memory.wf ((b, w) :: t)

end Sys2Proof.Machine
end

