-- ==== Sys2Proof/Machine/Patterns.lean ====
section
/-! DEFINITION. The Pattern Engine (R55 to R67): PRBS stepping, word formation and inversion, fixed and user words,
seeding, comparing and the leap. A pattern state is a 32-bit word: the register with stage j in bit j − 1, the USER
position, or 0 (R55). -/

namespace Sys2Proof.Machine

/-! ## PRBS registers (R56, R57) -/

/-- Stages n of the register (R56). -/
def Prbs.stages : Prbs → Nat
  | .prbs7 => 7
  | .prbs9 => 9
  | .prbs11 => 11
  | .prbs15 => 15
  | .prbs23 => 23
  | .prbs31 => 31

/-- The second feedback stage k (R56). -/
def Prbs.tap : Prbs → Nat
  | .prbs7 => 6
  | .prbs9 => 5
  | .prbs11 => 9
  | .prbs15 => 14
  | .prbs23 => 18
  | .prbs31 => 28

/-- The n low bits: the register of all ones (R61). -/
def Prbs.ones (p : Prbs) : Word := BitVec.ofNat 32 (2 ^ p.stages - 1)

/-- The next output bit: stage n exclusive-or stage k (R56). -/
def Prbs.nextBit (p : Prbs) (st : Word) : Bool := st.getLsbD (p.stages - 1) ^^ st.getLsbD (p.tap - 1)

/-- One step of the register: every stage moves up one place and stage 1 takes the new bit (R56). -/
def Prbs.step (p : Prbs) (st : Word) : Word :=
  ((st <<< 1) ||| (BitVec.ofBool (p.nextBit st)).setWidth 32) &&& p.ones

/-- `m` steps, the output bits shifted into a word, first bit highest (R57). -/
def Prbs.run (p : Prbs) : Nat → Word → Word → Word × Word
  | 0, acc, st => (acc, st)
  | m + 1, acc, st => Prbs.run p m ((acc <<< 1) ||| (BitVec.ofBool (p.nextBit st)).setWidth 32) (p.step st)

/-- `m` steps, the output not kept (R66). -/
def Prbs.leap (p : Prbs) : Nat → Word → Word
  | 0, st => st
  | m + 1, st => Prbs.leap p m (p.step st)

/-! ## User patterns (R60) -/

/-- The word at a position of a Pattern Table entry: word (i mod 256) of segment f + (i div 256) (R60). -/
def Store.patternWord (s : Store) (p : Fin 32) (pos : Nat) : Word :=
  s.mem.read (wordAddr (s.patterns[p].first.val + pos / Config.segmentWords) (pos % Config.segmentWords))

/-- The length L of the pattern a USER kind names. -/
def Store.patternLen (s : Store) (p : Fin 32) : Nat := s.patterns[p].len

/-! ## Words of a stream -/

/-- The word complemented when invert is on (R58). -/
def invertIf (invert : Bool) (w : Word) : Word := if invert then ~~~w else w

/-- The next word of a pattern state and the state past it (R57 to R60). -/
def nextWord (s : Store) (kind : PatternKind) (invert : Bool) (st : Word) : Word × Word :=
  match kind with
  | .prbs p => let r := p.run 32 0 st; (invertIf invert r.1, r.2)
  | .fixed w => (invertIf invert w, st)
  | .user p =>
    (invertIf invert (s.patternWord p st.toNat), BitVec.ofNat 32 ((st.toNat + 1) % s.patternLen p))

/-- The next `n` words and the state past them (R61). -/
def takeWords (s : Store) (kind : PatternKind) (invert : Bool) : Nat → Word → List Word × Word
  | 0, st => ([], st)
  | n + 1, st =>
    let a := nextWord s kind invert st
    let r := takeWords s kind invert n a.2
    (a.1 :: r.1, r.2)

/-- The state after `n` words, as if they had been compared (R66). -/
def leapWords (s : Store) (kind : PatternKind) (n : Nat) (st : Word) : Word :=
  match kind with
  | .prbs p => p.leap (32 * n) st
  | .fixed _ => st
  | .user p => BitVec.ofNat 32 ((st.toNat + n) % s.patternLen p)

/-- The generator's start state (R61). -/
def startState (kind : PatternKind) : Word :=
  match kind with
  | .prbs p => p.ones
  | .fixed _ => 0
  | .user _ => 0

/-! ## Comparing (R65) -/

/-- The number of ones in a word. -/
def onesCount (x : Word) : Nat := (List.range 32).countP (fun i => x.getLsbD i)

/-- The received words compared one by one with the prediction: the bit errors of each word, and the state past the
frame (R65). -/
def compareWords (s : Store) (kind : PatternKind) (invert : Bool) : List Word → Word → List Nat × Word
  | [], st => ([], st)
  | w :: ws, st =>
    let a := nextWord s kind invert st
    let r := compareWords s kind invert ws a.2
    (onesCount (a.1 ^^^ w) :: r.1, r.2)

/-! ## Seeding (R63, R64) -/

/-- The register the first n bits of word 0 seed, complemented first when invert is on (R63). -/
def Prbs.seed (p : Prbs) (invert : Bool) (w0 : Word) : Word := invertIf invert w0 >>> (32 - p.stages)

/-- A PRBS seeding frame: the rest of word 0 and the words after it compared with the register's continuation; none
when the seed is 0 (R63). -/
def seedPrbs (s : Store) (p : Prbs) (invert : Bool) : List Word → Option (Nat × Word)
  | [] => none
  | w0 :: ws =>
    let st0 := p.seed invert w0
    if st0 = 0 then none
    else
      let r := p.run (32 - p.stages) 0 st0
      let rest := compareWords s (.prbs p) invert ws r.2
      some (onesCount ((r.1 ^^^ invertIf invert w0) <<< p.stages) + rest.1.sum, rest.2)

/-- The bit errors and the end state of a seeding frame, or none when it cannot seed (R63, R64, R113). The caller has
put length mismatches aside, so a USER offset is below L. -/
def seedFrame (s : Store) (kind : PatternKind) (invert : Bool) (offset : Word) (words : List Word) :
    Option (Nat × Word) :=
  match kind with
  | .prbs p => seedPrbs s p invert words
  | .fixed w => let r := compareWords s (.fixed w) invert words 0; some (r.1.sum, r.2)
  | .user p => let r := compareWords s (.user p) invert words offset; some (r.1.sum, r.2)

/-- A USER frame's offset that names no position of the pattern (R64). -/
def offsetOutside (s : Store) (kind : PatternKind) (offset : Word) : Bool :=
  match kind with
  | .user p => decide (s.patternLen p ≤ offset.toNat)
  | .prbs _ => false
  | .fixed _ => false

/-- A stored pattern state in the form READ_STREAM gives it, which follows the configured kind (R55): a PRBS register with
zeros above bit n − 1, 0 for FIXED, a USER position as the number itself. It differs from the stored word only on a side that
is inactive and whose stream has been given another kind since (log 19). -/
def patternView (kind : PatternKind) (st : Word) : Word :=
  match kind with
  | .prbs p => st &&& p.ones
  | .fixed _ => 0
  | .user _ => st

/-- The offset field of a stream's test frame: the USER position, 0 for the other kinds (R28, R93). -/
def headerOffset (kind : PatternKind) (st : Word) : Word :=
  match kind with
  | .user _ => st
  | .prbs _ => 0
  | .fixed _ => 0

end Sys2Proof.Machine
end

