-- ==== Sys2Proof/Machine/Checker.lean ====
section
/-! DEFINITION. The Checker (R104 to R129): the sync machine's entry actions, a delivery in each sync state, the silence
timer, and its commands. A delivery is a function of the checker part, the configuration, the store and the state
of the stream's gate; it answers the new checker part and the stream events raised, in order. -/

namespace Sys2Proof.Machine

/-! ## Entry actions (R105) -/

/-- Entry to HUNT. -/
def Checker.enterHunt (c : Checker) : Checker :=
  { c with
    sync := .hunt
    progress := 0
    badRun := 0
    openBurst := 0
    unlockedSeen := true
    tickUnlocked := true }

/-- Entry to VERIFY. -/
def Checker.enterVerify (c : Checker) : Checker :=
  { c with
    sync := .verify
    progress := 0
    openBurst := 0
    unlockedSeen := true
    tickUnlocked := true }

/-- Entry to LOCKED from VERIFY; the caller raises LOCK_GAINED. -/
def Checker.enterLocked (c : Checker) : Checker := { c with sync := .locked, badRun := 0 }

/-- LOCKED kept, or entered from STALE: no action, no event, the bad run kept. -/
def Checker.resumeLocked (c : Checker) : Checker := { c with sync := .locked }

/-- Entry to STALE; the caller raises STALE. -/
def Checker.enterStale (c : Checker) : Checker :=
  { c with
    sync := .stale
    openBurst := 0
    unlockedSeen := true
    staleSeen := true
    tickUnlocked := true }

/-! ## What a delivery is judged by -/

/-- A checker part with the stream events raised on the way, in order. -/
abbrev Taken := Checker × List StreamKind

/-- Length mismatch (R110). -/
def lengthMismatch (cfg : StreamConfig) (st : Store) (f : Frame) : Bool :=
  f.short || f.lengthField != cfg.payloadLen || offsetOutside st cfg.kind f.offset

/-- The mismatch that HUNT and VERIFY count too: a USER offset of L or more with a matching length field and a complete
body (R112, R113, R116). -/
def offsetOnlyMismatch (cfg : StreamConfig) (st : Store) (f : Frame) : Bool :=
  !f.short && f.lengthField == cfg.payloadLen && offsetOutside st cfg.kind f.offset

/-- The ahead distance of a frame (R111). -/
def ahead (f : Frame) (c : Checker) : Nat := (f.sequence - c.expected).toNat

/-- Sequence classes (R111); an in-order frame is a distance of 0, a gap the number of frames missing. -/
inductive SeqClass where
  | inSequence (missing : Nat)
  | late
  | jump
  deriving DecidableEq, Repr

/-- The class of an ahead distance (R111). -/
def seqClass (leapLimit d : Nat) : SeqClass :=
  if d ≤ leapLimit then .inSequence d
  else if 32768 ≤ d then .late
  else .jump

/-- A frame is bad when its bit errors exceed the threshold (R8). -/
def badFrame (cfg : StreamConfig) (errs : Nat) : Bool := decide (cfg.badThreshold < errs)

/-! ## HUNT (R113, R114) -/

/-- VERIFY after a good frame: progress rises, and at V the checker enters LOCKED (R114, R115). -/
def Checker.verified (c : Checker) (cfg : StreamConfig) : Taken :=
  let c1 := { c with progress := c.progress + 1 }
  if cfg.verifyCount ≤ c1.progress then (c1.enterLocked, [.lockGained]) else (c1, [])

/-- A delivery taken in HUNT, its frames-received count made (R113, R114). -/
def takeHunt (cfg : StreamConfig) (st : Store) (gateOpen : Bool) (f : Frame) (c : Checker) : Taken :=
  if lengthMismatch cfg st f then
    (if offsetOnlyMismatch cfg st f then c.tally gateOpen { mismatches := 1 } else c, [])
  else
    match seedFrame st cfg.kind cfg.invert f.offset f.words with
    | none => (c, [])
    | some (errs, pat) =>
      let c1 := { c with pat := pat, expected := f.sequence + 1 }
      if badFrame cfg errs then (c1, []) else c1.enterVerify.verified cfg

/-! ## VERIFY (R115, R116) -/

/-- A frame compared under the VERIFY rules from the checker's pattern state: a bad one costs a resync and goes to
HUNT, a good one raises progress (R115). -/
def verifyCompare (cfg : StreamConfig) (st : Store) (gateOpen : Bool) (f : Frame) (c : Checker) : Taken :=
  let r := compareWords st cfg.kind cfg.invert f.words c.pat
  let c1 := { c with pat := r.2, expected := f.sequence + 1 }
  if badFrame cfg r.1.sum then ((c1.tally gateOpen { resyncs := 1 }).enterHunt, []) else c1.verified cfg

/-- A jump: a resync, HUNT, and the same frame taken there (R116, R120, R122). -/
def takeJump (cfg : StreamConfig) (st : Store) (gateOpen : Bool) (f : Frame) (c : Checker) : Taken :=
  takeHunt cfg st gateOpen f (c.tally gateOpen { resyncs := 1 }).enterHunt

/-- A delivery taken in VERIFY (R115, R116). -/
def takeVerify (cfg : StreamConfig) (st : Store) (gateOpen : Bool) (f : Frame) (c : Checker) : Taken :=
  match seqClass cfg.leapLimit (ahead f c) with
  | .late => (c, [])
  | .jump => takeJump cfg st gateOpen f c
  | .inSequence d =>
    if lengthMismatch cfg st f then
      ((c.tally gateOpen { resyncs := 1, mismatches := one (offsetOnlyMismatch cfg st f) }).enterHunt, [])
    else
      verifyCompare cfg st gateOpen f { c with pat := leapWords st cfg.kind (d * cfg.payloadLen) c.pat }

/-! ## LOCKED and STALE (R67, R117 to R122) -/

/-- The updates of a compare under the LOCKED rules (R117). -/
def lockedCompare (cfg : StreamConfig) (st : Store) (gateOpen : Bool) (f : Frame) (c : Checker) : Checker :=
  let r := compareWords st cfg.kind cfg.invert f.words c.pat
  let errs := r.1.sum
  let bad := badFrame cfg errs
  let c1 := c.tally gateOpen
    { bits := 32 * f.words.length, errs := errs, compared := 1, errored := one (errs != 0), bad := one bad }
  let c2 :=
    { c1 with
      tickErrors := satAdd c1.tickErrors errs
      badRun := if bad then c1.badRun + 1 else 0
      pat := r.2
      expected := f.sequence + 1 }
  r.1.foldl (fun c e => c.burstWord gateOpen e) c2

/-- The end of an in-sequence frame under the LOCKED rules: lock is lost when the bad run has reached K (R119), and
otherwise the state is LOCKED (R122). -/
def settleLock (cfg : StreamConfig) (gateOpen : Bool) (c : Checker) : Taken :=
  if cfg.lossCount ≤ c.badRun then ((c.tally gateOpen { resyncs := 1 }).enterHunt, [.lockLost])
  else (c.resumeLocked, [])

/-- A lost-length frame after `d` missing frames (R121). -/
def lostLength (cfg : StreamConfig) (st : Store) (gateOpen : Bool) (d : Nat) (f : Frame) (c : Checker) : Checker :=
  let c1 := (c.tally gateOpen { lost := d, mismatches := 1 }).closeBurst gateOpen
  { c1 with
    pat := leapWords st cfg.kind ((1 + d) * cfg.payloadLen) c1.pat
    expected := f.sequence + 1
    badRun := c1.badRun + 1 }

/-- The gap's part of a frame that follows `d` missing frames: they are counted lost, the open burst closes, the
pattern leaps (R118, steps 1 to 3). An in-order frame has none of it. -/
def leapGap (cfg : StreamConfig) (st : Store) (gateOpen : Bool) (d : Nat) (c : Checker) : Checker :=
  if d = 0 then c
  else
    let c1 := (c.tally gateOpen { lost := d }).closeBurst gateOpen
    { c1 with pat := leapWords st cfg.kind (d * cfg.payloadLen) c1.pat }

/-- A USER frame whose offset differs from the predicted position (R67). -/
def misaligned (cfg : StreamConfig) (f : Frame) (c : Checker) : Bool :=
  match cfg.kind with
  | .user _ => f.offset != c.pat
  | .prbs _ => false
  | .fixed _ => false

/-- An alignment slip (R67, steps 1 to 5). -/
def alignmentSlip (cfg : StreamConfig) (st : Store) (gateOpen : Bool) (f : Frame) (c : Checker) : Taken :=
  let c1 := { (c.tally gateOpen { resyncs := 1 }) with pat := f.offset }
  let r := verifyCompare cfg st gateOpen f c1.enterVerify
  (r.1, .lockLost :: r.2)

/-- A delivery taken in LOCKED or STALE (R118 to R122). -/
def takeLocked (cfg : StreamConfig) (st : Store) (gateOpen : Bool) (f : Frame) (c : Checker) : Taken :=
  match seqClass cfg.leapLimit (ahead f c) with
  | .late => (c.tally gateOpen { late := 1 }, [])
  | .jump =>
    let r := takeJump cfg st gateOpen f c
    (r.1, .lockLost :: r.2)
  | .inSequence d =>
    if lengthMismatch cfg st f then settleLock cfg gateOpen (lostLength cfg st gateOpen d f c)
    else
      let c1 := leapGap cfg st gateOpen d c
      if misaligned cfg f c1 then alignmentSlip cfg st gateOpen f c1
      else settleLock cfg gateOpen (lockedCompare cfg st gateOpen f c1)

/-! ## A delivery (R109) -/

/-- One delivery at a checker: frames received and the silence count first, then by sync state (R109). -/
def takeDelivery (cfg : StreamConfig) (st : Store) (gateOpen : Bool) (f : Frame) (c : Checker) : Taken :=
  let c1 := { c.tally gateOpen { received := 1 } with silence := 0 }
  match c.sync with
  | .off => (c, [])
  | .hunt => takeHunt cfg st gateOpen f c1
  | .verify => takeVerify cfg st gateOpen f c1
  | .locked => takeLocked cfg st gateOpen f c1
  | .stale => takeLocked cfg st gateOpen f c1

/-- A delivery at a stream's record, its events raised (R45, R109). -/
def deliver (s : State) (i : Fin 256) (f : Frame) : State :=
  let r := s.stream i
  let t := takeDelivery r.config s.store (s.gateOpenFor r) f r.chk
  (s.setChk i t.1).raiseAll i t.2

/-! ## The silence timer (R123, R124) -/

/-- The silence timer runs in VERIFY and LOCKED (R104). -/
def Checker.timed (c : Checker) : Bool := c.sync == .verify || c.sync == .locked

/-- The silence count after one more tick (R123). -/
def Checker.nextSilence (c : Checker) : Nat := min (c.silence + 1) 65535

/-- This tick brings the silence count to the timeout (R124). -/
def silenceExpires (r : Stream) : Bool :=
  r.chk.timed && r.config.silenceTimeout != 0 && r.chk.nextSilence == r.config.silenceTimeout

/-- The tick at a checker whose silence expires with it (R124). -/
def expireSilence (s : State) (i : Fin 256) : State :=
  let r := s.stream i
  let c : Checker := { r.chk with silence := r.chk.nextSilence }
  if c.sync = .verify then s.setChk i (c.tally (s.gateOpenFor r) { resyncs := 1 }).enterHunt
  else (s.setChk i c.enterStale).raiseStream i .stale

/-- The T1MS tick at one checker (R123, R124). -/
def tickChecker (s : State) (i : Fin 256) : State :=
  let r := s.stream i
  if silenceExpires r then expireSilence s i
  else if r.chk.timed then s.setChk i { r.chk with silence := r.chk.nextSilence }
  else s

/-- SILENCE_EXPIRY: the tick of one checker that brings its silence count to its timeout (R124; log 4). -/
def execSilenceExpiry (i : Fin 256) (s : State) : Result :=
  if !s.inReset && silenceExpires (s.stream i) then .next (expireSilence s i) else .next s

/-! ## Commands -/

/-- The checker part an accepted START_CHK leaves (R106). -/
def Checker.started (c : Checker) (gateOpen : Bool) : Checker :=
  { c.enterHunt with
    expected := 0
    pat := 0
    silence := 0
    ivl := .zero
    lateStart := gateOpen
    staleSeen := false
    unlockedSeen := true
    tickErrors := 0
    tickUnlocked := true }

/-- START_CHK's checks and action (R106). -/
def startChkAct : List Word → State → Answer × State
  | [w], s =>
    let i := index 256 w
    let r := s.stream i
    checked
      [ (inRange w 0 255, .outOfRange),
        (r.configured, .notConfigured),
        (!r.chk.active, .active),
        (decide (i.val < s.window.size.value), .outOfWindow),
        (s.store.patternReady r.config.kind, .notReady) ]
      s (.good [Word.ofNat (one (s.gateOpenFor r))],
         (s.setChk i (r.chk.started (s.gateOpenFor r))).setStore (s.store.use r.config.kind (· + 1)))
  | _, s => badLength s

/-- The checker part an accepted STOP_CHK leaves (R107). -/
def Checker.stopped (c : Checker) : Checker :=
  { c with
    sync := .off
    openBurst := 0
    ivl := .zero
    lateStart := false
    unlockedSeen := false
    staleSeen := false
    tickErrors := 0
    tickUnlocked := false
    progress := 0
    badRun := 0
    silence := 0 }

/-- STOP_CHK's checks and action (R107). -/
def stopChkAct : List Word → State → Answer × State
  | [w], s =>
    let i := index 256 w
    let r := s.stream i
    checked
      [ (inRange w 0 255, .outOfRange),
        (r.chk.active, .notActive) ]
      s (.good [Word.ofNat r.chk.sync.code],
         (s.setChk i r.chk.stopped).setStore (s.store.use r.config.kind (· - 1)))
  | _, s => badLength s

/-- The checker holds lock, or held it when it fell silent (R108). -/
def Checker.holdsLock (c : Checker) : Bool := c.sync == .locked || c.sync == .stale

/-- An accepted RESTART_CHK at its stream (R108). -/
def restartChecker (s : State) (i : Fin 256) : State :=
  let r := s.stream i
  if r.chk.holdsLock then
    (s.setChk i (r.chk.tally (s.gateOpenFor r) { resyncs := 1 }).enterHunt).raiseStream i .lockLost
  else s.setChk i r.chk.enterHunt

/-- RESTART_CHK's checks and action (R108). -/
def restartChkAct : List Word → State → Answer × State
  | [w], s =>
    let i := index 256 w
    let r := s.stream i
    checked
      [ (inRange w 0 255, .outOfRange),
        (r.chk.active, .notActive) ]
      s (.good [Word.ofNat r.chk.sync.code], restartChecker s i)
  | _, s => badLength s

/-- START_CHK (R106). -/
def execStartChk (s : State) : Result := runCommand .startChk startChkAct s

/-- STOP_CHK (R107). -/
def execStopChk (s : State) : Result := runCommand .stopChk stopChkAct s

/-- RESTART_CHK (R108). -/
def execRestartChk (s : State) : Result := runCommand .restartChk restartChkAct s

end Sys2Proof.Machine
end

