-- ==== Sys2Proof/Machine/ResultRing.lean ====
section
/-! DEFINITION. The Result Ring (R147 to R155): offers, and its commands. -/

namespace Sys2Proof.Machine

/-- The ring after an offer: what fits is appended at the tail, the rest is lost (R148, steps 1 and 2). -/
def Ring.take (r : Ring) (batch : List Record) : Ring :=
  let free := Config.ringCapacity - r.records.length
  { r with
    records := r.records ++ batch.take free
    appended := satAdd r.appended (min free batch.length)
    lost := satAdd r.lost (batch.length - free) }

/-- An offer of a batch: the ring takes it, RING_HIGH is raised when the fill crosses the mark and RING_LOSS when a
record is lost (R148, R149). -/
def offer (s : State) (batch : List Record) : State :=
  let before := s.ring.records.length
  let s1 := s.setRing (s.ring.take batch)
  let after := s1.ring.records.length
  let s2 := if before < s.ring.highWater ∧ s.ring.highWater ≤ after then s1.raiseDevice .ringHigh 0 0 else s1
  if Config.ringCapacity - before < batch.length then s2.raiseDevice .ringLoss s1.ring.lost 0 else s2

/-- FETCH_RESULTS's check and action (R151). -/
def fetchResultsAct : List Word → State → Answer × State
  | [k], s =>
    let m := min k.toNat s.ring.records.length
    checked [(inRange k 1 8, .outOfRange)] s
      (.good ([Word.ofNat m, Word.ofNat s.ring.records.length] ++ (s.ring.records.take m).flatMap recordWords), s)
  | _, s => badLength s

/-- RELEASE_RESULTS's checks and action (R152). -/
def releaseResultsAct : List Word → State → Answer × State
  | [k], s =>
    checked
      [ (inRange k 1 1024, .outOfRange),
        (decide (k.toNat ≤ s.ring.records.length), .ringShort) ]
      s (.good [Word.ofNat (s.ring.records.length - k.toNat)],
         s.setRing { s.ring with records := s.ring.records.drop k.toNat })
  | _, s => badLength s

/-- SET_RING's check and action (R153). -/
def setRingAct : List Word → State → Answer × State
  | [m], s =>
    checked [(inRange m 1 1024, .outOfRange)] s (.good [m], s.setRing { s.ring with highWater := m.toNat })
  | _, s => badLength s

/-- READ_RING's action (R154). -/
def readRingAct : List Word → State → Answer × State
  | [], s =>
    (.good [Word.ofNat s.ring.records.length, s.ring.appended, s.ring.lost, Word.ofNat s.ring.highWater], s)
  | _, s => badLength s

/-- FETCH_RESULTS (R151). -/
def execFetchResults (s : State) : Result := runCommand .fetchResults fetchResultsAct s

/-- RELEASE_RESULTS (R152). -/
def execReleaseResults (s : State) : Result := runCommand .releaseResults releaseResultsAct s

/-- SET_RING (R153). -/
def execSetRing (s : State) : Result := runCommand .setRing setRingAct s

/-- READ_RING (R154). -/
def execReadRing (s : State) : Result := runCommand .readRing readRingAct s

end Sys2Proof.Machine
end

