-- ==== Sys2Proof/Machine/Gates.lean ====
section
/-! DEFINITION. The Timebase and the Gate Unit (R130 to R146): count events, openings, tick classification, interval ends,
chaining, GATE_OUT, the ticks and SYNC_IN, and the gate commands. -/

namespace Sys2Proof.Machine

/-! ## Members -/

/-- The members of a gate in increasing stream index (R6, R133). -/
def members (s : State) (g : Fin 4) : List (Fin 256) := tableWhere (fun r => r.memberOf g) s.streams

/-- A member at an opening or an interval end: interval set zeroed, flags cleared, UNLOCKED_SEEN and tick-unlocked from
the sync state, tick bit errors 0 (R137, R139 step 2). -/
def Checker.freshInterval (c : Checker) : Checker :=
  { c with
    ivl := .zero
    lateStart := false
    staleSeen := false
    unlockedSeen := c.sync != .locked
    tickErrors := 0
    tickUnlocked := c.sync != .locked }

/-- Every member of a gate made fresh. -/
def freshMembers (s : State) (g : Fin 4) : State :=
  s.mapStreams (fun r => if r.memberOf g then { r with chk := r.chk.freshInterval } else r)

/-! ## Openings and ticks (R137, R138) -/

/-- An ARMED gate opens; the opening event is not counted (R137). -/
def openGate (s : State) (g : Fin 4) : State :=
  freshMembers (s.setGate g { s.gate g with state := .opened }) g

/-- The classes of a tick (R138). -/
inductive TickClass where
  | unavailable | severe | errored | clean
  deriving DecidableEq, Repr

/-- The class of a member's tick: the first case that applies (R138). -/
def tickClass (r : Stream) : TickClass :=
  if r.chk.tickUnlocked then .unavailable
  else if r.config.severeThreshold < r.chk.tickErrors.toNat then .severe
  else if 0 < r.chk.tickErrors.toNat then .errored
  else .clean

/-- The interval tick counters with one classified tick (R138). -/
def Interval.addTick (c : Interval) : TickClass → Interval
  | .unavailable => { c with unavailTicks := satAdd c.unavailTicks 1 }
  | .severe => { c with severeTicks := satAdd c.severeTicks 1, erroredTicks := satAdd c.erroredTicks 1 }
  | .errored => { c with erroredTicks := satAdd c.erroredTicks 1 }
  | .clean => c

/-- A member's checker part after its tick is classified (R138). -/
def Checker.afterTick (c : Checker) (k : TickClass) : Checker :=
  { c with ivl := c.ivl.addTick k, tickErrors := 0, tickUnlocked := c.sync != .locked }

/-- One member's tick (R138). -/
def classifyMember (s : State) (i : Fin 256) : State :=
  let r := s.stream i
  let s1 := s.setChk i (r.chk.afterTick (tickClass r))
  if tickClass r = .severe then s1.raiseStream i .severeTick else s1

/-- Every member's tick, in increasing stream index (R138). -/
def classifyMembers (s : State) (g : Fin 4) : State := (members s g).foldl classifyMember s

/-! ## Interval ends (R139 to R142) -/

/-- The record of a member at an interval end (R32). -/
def recordOf (s : State) (g : Fin 4) (partialEnd : Bool) (i : Fin 256) : Record :=
  let r := s.stream i
  { stream := i
    gate := r.config.gate
    endState := r.chk.sync
    partialEnd := partialEnd
    lateStart := r.chk.lateStart
    unlockedSeen := r.chk.unlockedSeen
    staleSeen := r.chk.staleSeen
    number := (s.gate g).number
    counts := r.chk.ivl }

/-- Step 1: the batch is offered; a gate with no members offers nothing (R139). -/
def offerBatch (s : State) (g : Fin 4) (partialEnd : Bool) : State :=
  match members s g with
  | [] => s
  | ms => offer s (ms.map (recordOf s g partialEnd))

/-- The gate after steps 3 and 4: the next number, count 0, a pending length applied (R139, R140). -/
def Gate.nextInterval (x : Gate) : Gate :=
  { x with
    number := x.number + 1
    count := 0
    length := x.pendingLength.getD x.length
    pendingLength := none }

/-- Step 6: a pulse is started when marks output is on. `base` is the number of pulses running before the event, so that
ends of one event give one pulse (R144; log 12). -/
def startPulse (s : State) (g : Fin 4) (base : Nat) : State :=
  if (s.gate g).marks then { s with pulses := base + 1 } else s

/-- Steps 1 to 6 of an interval end (R139, R142). -/
def endInterval (g : Fin 4) (partialEnd : Bool) (base : Nat) (s : State) : State :=
  let number := (s.gate g).number
  let s1 := freshMembers (offerBatch s g partialEnd) g
  let s2 := s1.setGate g (s1.gate g).nextInterval
  let s3 := s2.raiseDevice .gateEnd (Word.ofNat g.val) number
  startPulse s3 g base

/-- Step 8: a SINGLE gate, or a stopped one, becomes IDLE (R139, R142). -/
def closeGate (g : Fin 4) (stop : Bool) (s : State) : State :=
  if stop ∨ (s.gate g).mode = .single then s.setGate g { s.gate g with state := .idle } else s

/-- The interval end of a gate with no partner: steps 1 to 6 and 8. -/
def endAlone (g : Fin 4) (base : Nat) (s : State) : State := closeGate g false (endInterval g false base s)

/-- A count event reaching a gate, with what an interval end does (R133, R138). -/
def countEventWith (atEnd : State → State) (g : Fin 4) (s : State) : State :=
  let x := s.gate g
  match x.state with
  | .idle => s
  | .armed => if x.qualifier = .nextCount then openGate s g else s
  | .opened =>
    let s1 := classifyMembers (s.setGate g { x with count := x.count + 1 }) g
    if x.count + 1 = x.length then atEnd s1 else s1

/-- The chained partner of an even gate, when the odd gate above it has source CHAIN (R132). -/
def partner (s : State) (g : Fin 4) : Option (Fin 4) :=
  if g = 0 ∧ (s.gate 1).source = .chain then some 1
  else if g = 2 ∧ (s.gate 3).source = .chain then some 3
  else none

/-- Step 7: the chained partner's count event, inside the even gate's interval end (R141). A partner has no partner. -/
def feedPartner (g : Fin 4) (base : Nat) (s : State) : State :=
  match partner s g with
  | some h => countEventWith (endAlone h base) h s
  | none => s

/-- An interval end, steps 1 to 8; `stop` makes it the partial end of STOP_GATE (R139, R142). -/
def intervalEnd (g : Fin 4) (stop : Bool) (base : Nat) (s : State) : State :=
  closeGate g stop (feedPartner g base (endInterval g stop base s))

/-- A count event of a gate's source (R133, R138, R139). -/
def countEvent (base : Nat) (g : Fin 4) (s : State) : State := countEventWith (intervalEnd g false base) g s

/-- INTERVAL_END: the count event of an OPEN gate that brings its count to its length (R138, R139; log 4). -/
def execIntervalEnd (g : Fin 4) (s : State) : Result :=
  if !s.inReset && (s.gate g).state == .opened && (s.gate g).count + 1 == (s.gate g).length then
    .next (countEvent s.pulses g s)
  else .next s

/-- GATE_OUT is high while a pulse is running (R144). -/
def State.gateOut (s : State) : Bool := decide (0 < s.pulses)

/-- GATE_OUT_PULSE_END: the oldest pulse's 1 µs runs out (R144; log 12). -/
def execGateOutPulseEnd (s : State) : Result := .next { s with pulses := s.pulses - 1 }

/-! ## Ticks and edges (R123, R130, R131) -/

/-- A tick of one rate at one gate. -/
def tickGate (source : GateSource) (base : Nat) (s : State) (g : Fin 4) : State :=
  if (s.gate g).source = source then countEvent base g s else s

/-- A tick that reaches gates alone, in the order given (log 8). -/
def tickGates (source : GateSource) (order : List (Fin 4)) (s : State) : State :=
  (completeOrder order (indexes 4)).foldl (tickGate source s.pulses) s

/-- The T1MS tick at one site (R130). -/
def tickSite (base : Nat) (s : State) : TickSite → State
  | .checker i => tickChecker s i
  | .gate g => tickGate .t1ms base s g

/-- Every site at which a T1MS tick does something: the checkers whose silence timer runs (R104), then the gates, unless the
event orders them otherwise (log 8). -/
def allSites (s : State) : List TickSite :=
  (tableWhere (fun r => r.chk.timed) s.streams).map .checker ++ (indexes 4).map .gate

/-- T1MS (R123, R130). -/
def execT1ms (order : List TickSite) (s : State) : Result :=
  if s.inReset then .next s
  else .next ((completeOrder order (allSites s)).foldl (tickSite s.pulses) { s with ms := (s.ms + 1) % 1000 })

/-- T10MS (R130). -/
def execT10ms (order : List (Fin 4)) (s : State) : Result :=
  if s.inReset then .next s else .next (tickGates .t10ms order s)

/-- T100MS (R130). -/
def execT100ms (order : List (Fin 4)) (s : State) : Result :=
  if s.inReset then .next s else .next (tickGates .t100ms order s)

/-- T1S (R130). -/
def execT1s (order : List (Fin 4)) (s : State) : Result :=
  if s.inReset then .next s else .next (tickGates .t1s order s)

/-- A SYNC_IN edge at one gate: the opening event of an ARMED gate with qualifier SYNC_EDGE, a count event of a gate
whose source is SYNC_IN (R131, R137). -/
def edgeGate (base : Nat) (s : State) (g : Fin 4) : State :=
  let x := s.gate g
  if x.state = .armed ∧ x.qualifier = .syncEdge then openGate s g
  else if x.source = .syncIn then countEvent base g s
  else s

/-- SYNC_IN (R131). -/
def execSyncIn (order : List (Fin 4)) (s : State) : Result :=
  if s.inReset then .next s else .next ((completeOrder order (indexes 4)).foldl (edgeGate s.pulses) s)

/-! ## Commands -/

/-- The code of a pending length, 0 when absent (R135, R143). -/
def pendingWord (x : Gate) : Word := Word.ofNat (x.pendingLength.getD 0)

/-- An ARMED or OPEN gate takes a SET_GATE that repeats its source, mode, qualifier and marks output (R135, check 4). -/
def Gate.sameFields (x : Gate) (src : GateSource) (m : GateMode) (q : Qualifier) (marks : Bool) : Bool :=
  x.source == src && x.mode == m && x.qualifier == q && x.marks == marks

/-- The gate an accepted SET_GATE leaves (R135). -/
def Gate.configured (x : Gate) (src : GateSource) (len : Nat) (m : GateMode) (q : Qualifier) (marks : Bool) : Gate :=
  if x.state = .idle then
    { x with source := src, length := len, mode := m, qualifier := q, marks := marks, count := 0, pendingLength := none }
  else { x with pendingLength := if len = x.length then none else some len }

/-- SET_GATE's checks and action (R135). -/
def setGateAct : List Word → State → Answer × State
  | [wg, wsrc, wlen, wmode, wqual, wmarks], s =>
    let g := index 4 wg
    let x := s.gate g
    let y := x.configured (gateSourceOf wsrc) wlen.toNat (gateModeOf wmode) (qualifierOf wqual) (decide (wmarks = 1))
    checked
      [ (inRange wg 0 3, .outOfRange),
        (inRange wsrc 0 5, .outOfRange),
        (inRange wlen 1 65535, .outOfRange),
        (inRange wmode 0 1, .outOfRange),
        (inRange wqual 0 1, .outOfRange),
        (inRange wmarks 0 1, .outOfRange),
        (gateSourceOf wsrc != .chain || g == 1 || g == 3, .outOfRange),
        (x.state == .idle
          || x.sameFields (gateSourceOf wsrc) (gateModeOf wmode) (qualifierOf wqual) (decide (wmarks = 1)),
          .gateState) ]
      s (.good [Word.ofNat y.state.code, pendingWord y], s.setGate g y)
  | _, s => badLength s

/-- START_GATE's checks and action (R136). -/
def startGateAct : List Word → State → Answer × State
  | [wg], s =>
    let g := index 4 wg
    let x := s.gate g
    checked
      [ (inRange wg 0 3, .outOfRange),
        (x.state == .idle, .gateState) ]
      s (.good [], s.setGate g { x with state := .armed, number := 0, count := 0 })
  | _, s => badLength s

/-- An accepted STOP_GATE at its gate (R142). -/
def stopGate (s : State) (g : Fin 4) : State :=
  match (s.gate g).state with
  | .idle => s
  | .armed => s.setGate g { s.gate g with state := .idle, pendingLength := none }
  | .opened => intervalEnd g true s.pulses s

/-- STOP_GATE's check and action (R142). -/
def stopGateAct : List Word → State → Answer × State
  | [wg], s =>
    let g := index 4 wg
    checked [(inRange wg 0 3, .outOfRange)] s (.good [Word.ofNat (s.gate g).state.code], stopGate s g)
  | _, s => badLength s

/-- READ_GATE's eleven words (R143). -/
def gateWords (s : State) (g : Fin 4) : List Word :=
  let x := s.gate g
  [Word.ofNat x.state.code, Word.ofNat x.source.code, Word.ofNat x.length, Word.ofNat (one x.pendingLength.isSome),
    pendingWord x, Word.ofNat x.count, Word.ofNat x.mode.code, Word.ofNat x.qualifier.code, Word.ofNat (one x.marks),
    x.number, Word.ofNat (members s g).length]

/-- READ_GATE's check and action (R143). -/
def readGateAct : List Word → State → Answer × State
  | [wg], s => checked [(inRange wg 0 3, .outOfRange)] s (.good (gateWords s (index 4 wg)), s)
  | _, s => badLength s

/-- SET_GATE (R135). -/
def execSetGate (s : State) : Result := runCommand .setGate setGateAct s

/-- START_GATE (R136). -/
def execStartGate (s : State) : Result := runCommand .startGate startGateAct s

/-- STOP_GATE (R142). -/
def execStopGate (s : State) : Result := runCommand .stopGate stopGateAct s

/-- READ_GATE (R143). -/
def execReadGate (s : State) : Result := runCommand .readGate readGateAct s

end Sys2Proof.Machine
end

