-- ==== Sys2Proof/Machine/Generator.lean ====
section
/-! DEFINITION. The Generator (R86 to R103): pacing, the lane arbiter, frame building, error injection, and its commands. -/

namespace Sys2Proof.Machine

/-! ## Error injection (R95 to R97) -/

/-- A flip inverts the bit the rotor names; the rotor advances and the flip is counted (R95). -/
def flip (g : Generator) (w : Word) : Generator × Word :=
  ({ g with rotor := g.rotor + 1, bitsInjected := satAdd g.bitsInjected 1 }, w ^^^ ((1 : Word) <<< g.rotor.toNat))

/-- The rate countdown has reached 0: a flip, the reload with the phase's dither, and the next phase (R96). -/
def rateFlip (g : Generator) (w : Word) : Generator × Word :=
  let r := flip g w
  ({ r.1 with
      injCountdown := g.interval + one (g.ditherMask.getLsbD g.ditherPhase.toNat)
      ditherPhase := g.ditherPhase + 1 }, r.2)

/-- The rate source takes one offered word (R96). With N = 0 it is off. -/
def rateSource (g : Generator) (w : Word) : Generator × Word :=
  if g.interval = 0 then (g, w)
  else if g.injCountdown - 1 = 0 then rateFlip g w
  else ({ g with injCountdown := g.injCountdown - 1 }, w)

/-- The single request (R97). -/
def singleSource (g : Generator) (w : Word) : Generator × Word :=
  if g.single then flip { g with single := false } w else (g, w)

/-- The burst request (R97). -/
def burstSource (g : Generator) (w : Word) : Generator × Word :=
  if g.burst = 0 then (g, w) else flip { g with burst := g.burst - 1 } w

/-- One generated word offered to the three sources in order (R95). -/
def injectWord (g : Generator) (w : Word) : Generator × Word :=
  let a := rateSource g w
  let b := singleSource a.1 a.2
  burstSource b.1 b.2

/-- The words of one frame through injection, from payload word 0 to the last (R94). -/
def injectWords : Generator → List Word → Generator × List Word
  | g, [] => (g, [])
  | g, w :: ws =>
    let a := injectWord g w
    let r := injectWords a.1 ws
    (r.1, a.2 :: r.2)

/-! ## Building a test frame (R93, R94) -/

/-- The chosen stream's frame and its generator part after the build (R93, R94): due is cleared, the sequence and the
pattern state advance, the flips and the frame are counted. -/
def buildTest (s : State) (i : Fin 256) : Generator × Frame :=
  let cfg := (s.stream i).config
  let g := (s.stream i).gen
  let p := takeWords s.store cfg.kind cfg.invert cfg.payloadLen g.pat
  let r := injectWords g p.1
  ({ r.1 with
      due := false
      nextSeq := g.nextSeq + 1
      pat := p.2
      framesSent := satAdd g.framesSent 1 },
   buildFrame kindTest s.addr (s.window.stamp i) g.nextSeq (headerOffset cfg.kind g.pat) r.2)

/-! ## Pacing (R89 to R91) -/

/-- A pacing expiry: the countdown reloads to P, and the stream becomes due, or, being due, has a pace slip (R89,
R91). -/
def pacingReload (s : State) (i : Fin 256) : State :=
  let r := s.stream i
  if r.gen.due then
    (s.setGen i { r.gen with countdown := r.config.pacing, paceSlips := satAdd r.gen.paceSlips 1 }).raiseStream i
      .paceSlip
  else s.setGen i { r.gen with countdown := r.config.pacing, due := true }

/-- One pacing step of one RUNNING generator (R89, steps 1 to 5). -/
def paceStream (s : State) (i : Fin 256) : State :=
  let r := s.stream i
  if r.gen.countdown - 1 = 0 then pacingReload s i
  else s.setGen i { r.gen with countdown := r.gen.countdown - 1 }

/-- The generator is RUNNING on this egress lane. -/
def Stream.paces (r : Stream) (l : Fin 16) : Bool := r.gen.state == .running && r.config.egressLane == l

/-- Step 1 of a line-out opportunity: the RUNNING generators of the lane in increasing index (R89). -/
def paceLane (s : State) (l : Fin 16) : State :=
  (tableWhere (fun r => r.paces l) s.streams).foldl paceStream s

/-- PACING_EXPIRY: the pacing step of one RUNNING generator whose countdown reaches 0 with it (R89; log 4). -/
def execPacingExpiry (i : Fin 256) (s : State) : Result :=
  if !s.inReset && (s.stream i).gen.state == .running && (s.stream i).gen.countdown - 1 == 0 then .next (paceStream s i)
  else .next s

/-- RATE_INJECTION: the rate source of a RUNNING generator strikes the word it is offered, its countdown reaching 0 with
it (R96; log 4). -/
def execRateInjection (i : Fin 256) (offered : Word) (s : State) : Result :=
  let g := (s.stream i).gen
  if !s.inReset && g.state == .running && g.interval != 0 && g.injCountdown - 1 == 0 then
    let r := rateFlip g offered
    .next { s.setGen i r.1 with injected := r.2 }
  else .next s

/-! ## The lane arbiter (R92) -/

/-- The stream is due on this egress lane. -/
def Stream.dueOn (r : Stream) (l : Fin 16) : Bool := r.gen.due && r.config.egressLane == l

/-- The first due stream in circular order after the lane's last-served stream: the first with a greater index, or else
the first of all (R92). -/
def arbiterChoice (s : State) (l : Fin 16) : Option (Fin 256) :=
  let due := tableWhere (fun r => r.dueOn l) s.streams
  match due.find? (fun i => decide ((s.lane l).lastServed < i)) with
  | some i => some i
  | none => due.head?

/-! ## Commands -/

/-- The state a started generator takes from its egress lane's mode (R86). -/
def startedState (m : EgressMode) : GenState :=
  match m with
  | .client => .held
  | .mixed => .running
  | .test => .running

/-- The generator part an accepted START_GEN leaves (R87). -/
def Generator.started (g : Generator) (cfg : StreamConfig) (m : EgressMode) : Generator :=
  { g with
    state := startedState m
    countdown := cfg.pacing
    due := false
    nextSeq := 0
    pat := startState cfg.kind
    injCountdown := g.interval
    ditherPhase := 0
    rotor := 0
    single := false
    burst := 0 }

/-- START_GEN's checks and action (R87). -/
def startGenAct : List Word → State → Answer × State
  | [w], s =>
    let i := index 256 w
    let r := s.stream i
    let g := r.gen.started r.config (s.lane r.config.egressLane).egress
    checked
      [ (inRange w 0 255, .outOfRange),
        (r.configured, .notConfigured),
        (!r.gen.active, .active),
        (decide (i.val < s.window.size.value), .outOfWindow),
        (s.store.patternReady r.config.kind, .notReady) ]
      s (.good [Word.ofNat g.state.code], (s.setGen i g).setStore (s.store.use r.config.kind (· + 1)))
  | _, s => badLength s

/-- The generator part an accepted STOP_GEN leaves (R88). -/
def Generator.stopped (g : Generator) : Generator :=
  { g with state := .idle, due := false, single := false, burst := 0 }

/-- STOP_GEN's checks and action (R88). -/
def stopGenAct : List Word → State → Answer × State
  | [w], s =>
    let i := index 256 w
    let r := s.stream i
    checked
      [ (inRange w 0 255, .outOfRange),
        (r.gen.active, .notActive) ]
      s (.good [r.gen.nextSeq.setWidth 32], (s.setGen i r.gen.stopped).setStore (s.store.use r.config.kind (· - 1)))
  | _, s => badLength s

/-- SET_INJECT's checks and action (R98). -/
def setInjectAct : List Word → State → Answer × State
  | [w, n, mask], s =>
    let i := index 256 w
    let r := s.stream i
    checked
      [ (inRange w 0 255, .outOfRange),
        (r.configured, .notConfigured),
        (inRange n 0 65535, .outOfRange),
        (inRange mask 0 15, .outOfRange) ]
      s (.good [], s.setGen i
          { r.gen with
            interval := n.toNat
            ditherMask := mask.setWidth 4
            injCountdown := n.toNat
            ditherPhase := 0 })
  | _, s => badLength s

/-- INJECT_ONE's checks and action (R99). -/
def injectOneAct : List Word → State → Answer × State
  | [w], s =>
    let i := index 256 w
    let r := s.stream i
    checked
      [ (inRange w 0 255, .outOfRange),
        (r.gen.active, .notActive),
        (!r.gen.single, .injectPending) ]
      s (.good [], s.setGen i { r.gen with single := true })
  | _, s => badLength s

/-- INJECT_BURST's checks and action (R100). -/
def injectBurstAct : List Word → State → Answer × State
  | [w, b], s =>
    let i := index 256 w
    let r := s.stream i
    checked
      [ (inRange w 0 255, .outOfRange),
        (inRange b 1 255, .outOfRange),
        (r.gen.active, .notActive),
        (r.gen.burst == 0, .injectPending) ]
      s (.good [], s.setGen i { r.gen with burst := b.toNat })
  | _, s => badLength s

/-- START_GEN (R87). -/
def execStartGen (s : State) : Result := runCommand .startGen startGenAct s

/-- STOP_GEN (R88). -/
def execStopGen (s : State) : Result := runCommand .stopGen stopGenAct s

/-- SET_INJECT (R98). -/
def execSetInject (s : State) : Result := runCommand .setInject setInjectAct s

/-- INJECT_ONE (R99). -/
def execInjectOne (s : State) : Result := runCommand .injectOne injectOneAct s

/-- INJECT_BURST (R100). -/
def execInjectBurst (s : State) : Result := runCommand .injectBurst injectBurstAct s

end Sys2Proof.Machine
end

