-- ==== Sys2Proof/Machine/Lanes.lean ====
section
/-! DEFINITION. The Lane Ports (R38 to R54): arrivals, steering, holding buffers, send opportunities, and SET_LANE and
READ_LANE. -/

namespace Sys2Proof.Machine

/-! ## Client-in arrivals (R42, R43) -/

/-- What R42 does with a frame on client-in of lane 0. -/
inductive Course where
  | own
  | broadcast
  | client
  deriving DecidableEq, Repr

/-- The course of a client-in arrival (R42). A part strapped to 63 has no address of its own. -/
def courseOf (s : State) (l : Fin 16) (f : Frame) : Course :=
  if l = 0 && classify s.window f == .management true then
    if f.address = 63 then .broadcast
    else if f.address = s.addr then .own
    else .client
  else .client

/-- A control frame taken by the agent: queued with its mark, or dropped and counted when the Command Queue holds 4
(R165). -/
def takeControl (s : State) (broadcast : Bool) (f : Frame) : State :=
  if s.agent.commands.length < Config.commandCapacity then
    s.setAgent { s.agent with commands := s.agent.commands ++ [⟨broadcast, f⟩] }
  else
    (s.setAgent { s.agent with overruns := satAdd s.agent.overruns 1 }).raiseDevice .cmdOverrun 0 0

/-- A client frame handled by the lane's egress mode (R43). -/
def takeClient (s : State) (l : Fin 16) (f : Frame) : State :=
  let n := s.lane l
  if n.egress = .test then
    s.setLane l { n with counters := { n.counters with displaced := satAdd n.counters.displaced 1 } }
  else if n.egressBuf.length < Config.bufferCapacity then s.setLane l { n with egressBuf := n.egressBuf ++ [f] }
  else
    (s.setLane l { n with counters := { n.counters with dropped := satAdd n.counters.dropped 1 } }).raiseDevice
      .bufferDrop 0 0

/-- CLIENT_IN_ARRIVAL (R42, R43, R165). The agent takes a broadcast frame before the lane does (log 10). -/
def execClientInArrival (l : Fin 16) (f : Frame) (s : State) : Result :=
  if s.takes l then
    match courseOf s l f with
    | .own => .next (takeControl s false f)
    | .broadcast => .next (takeClient (takeControl s true f) l f)
    | .client => .next (takeClient s l f)
  else .next s

/-! ## Line-in arrivals (R44, R45) -/

/-- Forwarding into the ingress holding buffer (R45). -/
def forward (s : State) (l : Fin 16) (f : Frame) : State :=
  let n := s.lane l
  if n.ingressBuf.length < Config.bufferCapacity then s.setLane l { n with ingressBuf := n.ingressBuf ++ [f] }
  else
    (s.setLane l { n with counters := { n.counters with lineDropped := satAdd n.counters.lineDropped 1 } }).raiseDevice
      .bufferDrop 0 0

/-- A decoded frame is deliverable on this lane (R44). -/
def deliverable (s : State) (l : Fin 16) (i : Fin 256) : Bool :=
  (s.lane l).ingress != .forward && (s.stream i).chk.active && (s.stream i).config.ingressLane == l

/-- The lane's classification counter for a verdict (R44, R50). -/
def countVerdict (s : State) (l : Fin 16) (v : Verdict) : State :=
  match v with
  | .notProbe => s
  | .management _ => s
  | .headerError => s.countLane l (fun c => { c with headerErrors := satAdd c.headerErrors 1 })
  | .testForeign =>
    if (s.lane l).ingress = .forward then s
    else s.countLane l (fun c => { c with foreign := satAdd c.foreign 1 })
  | .testDecoded i =>
    if (s.lane l).ingress = .forward then s
    else if deliverable s l i then s.countLane l (fun c => { c with delivered := satAdd c.delivered 1 })
    else s.countLane l (fun c => { c with stray := satAdd c.stray 1 })

/-- LINE_IN_ARRIVAL (R44, R45). In TAP the delivery and the forwarding come in the order the event gives (log 9). -/
def execLineInArrival (l : Fin 16) (f : Frame) (forwardFirst : Bool) (s : State) : Result :=
  if s.takes l then
    let v := classify s.window f
    let s1 := countVerdict s l v
    match v with
    | .testDecoded i =>
      if deliverable s l i then
        if (s.lane l).ingress = .tap then
          if forwardFirst then .next (deliver (forward s1 l f) i f) else .next (forward (deliver s1 i f) l f)
        else .next (deliver s1 i f)
      else .next (forward s1 l f)
    | _ => .next (forward s1 l f)
  else .next s

/-! ## Send opportunities (R47, R48) -/

/-- Step 2 of a line-out opportunity: the chosen stream's test frame is built and sent (R47, R92 to R94). -/
def sendTest (s : State) (l : Fin 16) (i : Fin 256) : State :=
  let b := buildTest s i
  let n := s.lane l
  (s.setGen i b.1).setLane l
    { n with
      lastServed := i
      counters := { n.counters with testSent := satAdd n.counters.testSent 1 }
      lineOut := some b.2 }

/-- Steps 3 and 4: a buffered client frame is sent in CLIENT or MIXED, or the opportunity goes unused (R47). -/
def sendClient (s : State) (l : Fin 16) : State :=
  let n := s.lane l
  match n.egressBuf with
  | f :: rest =>
    if n.egress = .test then s.setLane l { n with lineOut := none }
    else
      s.setLane l
        { n with
          egressBuf := rest
          counters := { n.counters with passed := satAdd n.counters.passed 1 }
          lineOut := some f }
  | [] => s.setLane l { n with lineOut := none }

/-- Steps 2 to 4 after pacing (R47). -/
def serveLineOut (s : State) (l : Fin 16) : State :=
  match arbiterChoice s l with
  | some i => sendTest s l i
  | none => sendClient s l

/-- LINE_OUT_OPPORTUNITY (R47). -/
def execLineOutOpportunity (l : Fin 16) (s : State) : Result :=
  if s.takes l then
    if (s.lane l).egress = .client then .next (sendClient s l) else .next (serveLineOut (paceLane s l) l)
  else .next s

/-- The waiting reply enters the Outbound Queue when it has a place, and the agent is free (R167). -/
def enterWaiting (s : State) : State :=
  match s.agent.waiting with
  | some r =>
    if s.agent.outbound.length < Config.outboundCapacity then
      s.setAgent { s.agent with outbound := s.agent.outbound ++ [r], waiting := none }
    else s
  | none => s

/-- The ingress holding buffer's head is sent, or the opportunity goes unused (R48). -/
def sendForwarded (s : State) (l : Fin 16) : State :=
  let n := s.lane l
  match n.ingressBuf with
  | f :: rest =>
    s.setLane l
      { n with
        ingressBuf := rest
        counters := { n.counters with forwarded := satAdd n.counters.forwarded 1 }
        clientOut := some f }
  | [] => s.setLane l { n with clientOut := none }

/-- The oldest frame of the Outbound Queue leaves on lane 0, and the waiting reply takes the place it made (R48, R167). -/
def sendOutbound (s : State) (o : OutFrame) (rest : List OutFrame) : State :=
  enterWaiting ((s.setAgent { s.agent with outbound := rest }).setLane 0
    { s.lane 0 with clientOut := some o.bytes })

/-- CLIENT_OUT_OPPORTUNITY (R48, R167). -/
def execClientOutOpportunity (l : Fin 16) (s : State) : Result :=
  if s.takes l then
    match s.agent.outbound with
    | o :: rest => if l = 0 then .next (sendOutbound s o rest) else .next (sendForwarded s l)
    | [] => .next (sendForwarded s l)
  else .next s

/-- WAITING_REPLY_ENTRY: the entry alone, when a reply waits and the queue has a place (R167; log 4). -/
def execWaitingReplyEntry (s : State) : Result :=
  if s.inReset then .next s else .next (enterWaiting s)

/-! ## Commands -/

/-- The generators of a lane at a change of its egress mode (R51). -/
def Stream.atModeChange (r : Stream) (l : Fin 16) (before after : EgressMode) : Stream :=
  if r.config.egressLane != l then r
  else if before != .client && after == .client && r.gen.state == .running then
    { r with gen := { r.gen with state := .held, due := false } }
  else if before == .client && after != .client && r.gen.state == .held then
    { r with gen := { r.gen with state := .running } }
  else r

/-- The lane with its new modes: entry to TEST discards the egress buffer and counts each frame displaced (R51). -/
def Lane.withModes (n : Lane) (eg : EgressMode) (ing : IngressMode) : Lane :=
  if n.egress != .test && eg == .test then
    { n with
      egress := eg
      ingress := ing
      egressBuf := []
      counters := { n.counters with displaced := satAdd n.counters.displaced n.egressBuf.length } }
  else { n with egress := eg, ingress := ing }

/-- The presence of a lane argument (R51). -/
def laneChecks (s : State) (w : Word) : List (Bool × Status) :=
  [(inRange w 0 15, .outOfRange), (s.present (index 16 w), .noLane)]

/-- SET_LANE's checks and action (R51, R52). -/
def setLaneAct : List Word → State → Answer × State
  | [w, weg, wing], s =>
    let l := index 16 w
    let n := s.lane l
    let eg := egressModeOf weg
    checked
      (laneChecks s w ++ [(inRange weg 0 2, .outOfRange), (inRange wing 0 2, .outOfRange)])
      s (.good [],
         (s.mapStreams (fun r => r.atModeChange l n.egress eg)).setLane l (n.withModes eg (ingressModeOf wing)))
  | _, s => badLength s

/-- The ten counters in the order of R50's table. -/
def LaneCounters.words (c : LaneCounters) : List Word :=
  [c.passed, c.dropped, c.displaced, c.testSent, c.forwarded, c.lineDropped, c.headerErrors, c.foreign, c.stray,
    c.delivered]

/-- READ_LANE's fifteen words (R53). -/
def laneWords (n : Lane) : List Word :=
  [Word.ofNat n.egress.code, Word.ofNat n.ingress.code, Word.ofNat n.egressBuf.length, Word.ofNat n.ingressBuf.length,
    Word.ofNat n.lastServed.val] ++ n.counters.words

/-- READ_LANE's checks and action (R53). -/
def readLaneAct : List Word → State → Answer × State
  | [w, wclear], s =>
    let l := index 16 w
    let n := s.lane l
    checked
      (laneChecks s w ++ [(inRange wclear 0 1, .outOfRange)])
      s (.good (laneWords n), if wclear = 1 then s.setLane l { n with counters := .zero } else s)
  | _, s => badLength s

/-- SET_LANE (R51). -/
def execSetLane (s : State) : Result := runCommand .setLane setLaneAct s

/-- READ_LANE (R53). -/
def execReadLane (s : State) : Result := runCommand .readLane readLaneAct s

end Sys2Proof.Machine
end

