-- ==== Sys2Proof/Machine/PatternStore.lean ====
section
/-! DEFINITION. The Pattern Store (R68 to R85): loading and reading segments, clears and the Clear Queue, the wipe, and the
Pattern Table's commands. -/

namespace Sys2Proof.Machine

/-! ## Segments and spans -/

def Store.seg (st : Store) (g : Fin 64) : Segment := st.segs[g]
def Store.setSeg (st : Store) (g : Fin 64) (x : Segment) : Store := { st with segs := st.segs.set g x }
def Store.pattern (st : Store) (p : Fin 32) : Pattern := st.patterns[p]
def Store.setPattern (st : Store) (p : Fin 32) (x : Pattern) : Store := { st with patterns := st.patterns.set p x }

/-- The segment is queued for a clear or being cleared (R68). -/
def Segment.busy (x : Segment) : Bool := x.state == .clearQueued || x.state == .clearing

/-- The state a fill gives a loaded segment (R68). -/
def loadedState (fill : Nat) : SegState :=
  if fill = 0 then .blank else if fill < Config.segmentWords then .partly else .full

/-- ceil(L / 256) (R78). -/
def spanOf (len : Nat) : Nat := (len + (Config.segmentWords - 1)) / Config.segmentWords

/-- A segment lies in the span of a READY pattern (R78). -/
def Pattern.covers (e : Pattern) (g : Fin 64) : Bool :=
  e.ready && decide (e.first.val ≤ g.val) && decide (g.val < e.first.val + spanOf e.len)

/-- Some pattern over the segment satisfies `p`. -/
def Store.coveredBy (st : Store) (g : Fin 64) (p : Pattern → Bool) : Bool :=
  (indexes 32).any (fun k => (st.pattern k).covers g && p (st.pattern k))

/-- The word with bit p set for each pattern p that satisfies `q` (R73, R76). -/
def patternMask (st : Store) (q : Pattern → Bool) : Word :=
  (indexes 32).foldl (fun m k => if q (st.pattern k) then m ||| ((1 : Word) <<< k.val) else m) 0

/-! ## Loading and reading (R70, R71) -/

/-- LOAD_WORDS's checks and action once the argument count is 2 to 65 (R70). -/
def loadWordsTo (w : Word) (data : List Word) (s : State) : Answer × State :=
  let g := index 64 w
  let x := s.store.seg g
  let fill := x.fill + data.length
  checked
    [ (inRange w 0 63, .outOfRange),
      (s.store.mode == .normal, .storeBusy),
      (!x.busy, .segmentBusy),
      (x.state != .faulted, .faulted),
      (decide (fill ≤ Config.segmentWords), .segmentFull) ]
    s (.good [Word.ofNat fill],
       s.setStore
        { (s.store.setSeg g { state := loadedState fill, fill := fill }) with
          mem := s.store.mem.writeAll (wordAddr g.val x.fill) data })

/-- LOAD_WORDS's argument count, then its checks and action (R70). -/
def loadWordsAct : List Word → State → Answer × State
  | w :: data, s =>
    if 1 ≤ data.length ∧ data.length ≤ 64 then loadWordsTo w data s else badLength s
  | [], s => badLength s

/-- READ_SEGMENT's answer by the segment's state (R71). -/
def readSegmentAnswer (st : Store) (g : Fin 64) (off count : Nat) : Answer :=
  let x := st.seg g
  if x.state = .faulted then .good [Word.ofNat x.state.code, 0]
  else if x.state = .blank ∧ off = 0 then .good [Word.ofNat x.state.code, 0]
  else if off < x.fill then
    .good ([Word.ofNat x.state.code, Word.ofNat x.fill]
      ++ st.mem.readAll (wordAddr g.val off) (min count (x.fill - off)))
  else .fail .outOfRange

/-- READ_SEGMENT's checks and action (R71). -/
def readSegmentAct : List Word → State → Answer × State
  | [w, off, count], s =>
    let g := index 64 w
    checked
      [ (inRange w 0 63, .outOfRange),
        (inRange off 0 255, .outOfRange),
        (inRange count 1 64, .outOfRange),
        (!(s.store.seg g).busy, .segmentBusy) ]
      s (readSegmentAnswer s.store g off.toNat count.toNat, s)
  | _, s => badLength s

/-! ## Clears (R72 to R74) -/

/-- Every READY pattern over the segment becomes UNDEFINED, keeping its first segment and length (R73). -/
def Store.undefineOver (st : Store) (g : Fin 64) : Store :=
  { st with patterns := tableMap (fun e => if e.covers g then { e with ready := false } else e) st.patterns }

/-- The segment enters the clear machine: CLEARING when it is idle, else queued (R73). -/
def Store.beginClear (st : Store) (g : Fin 64) : Store :=
  if st.clearing.isNone then
    { (st.setSeg g { state := .clearing, fill := 0 }) with clearing := some g }
  else
    { (st.setSeg g { state := .clearQueued, fill := 0 }) with clearQueue := st.clearQueue ++ [g] }

/-- CLEAR_SEGMENT's checks and action (R72, R73). -/
def clearSegmentAct : List Word → State → Answer × State
  | [w], s =>
    let g := index 64 w
    checked
      [ (inRange w 0 63, .outOfRange),
        (s.store.mode == .normal, .storeBusy),
        (!(s.store.seg g).busy, .alreadyClearing),
        (!s.store.coveredBy g (fun e => e.frozen), .frozen),
        (!s.store.coveredBy g (fun e => decide (0 < e.uses)), .pinned),
        (s.store.clearing.isNone || decide (s.store.clearQueue.length < Config.clearCapacity), .queueFull) ]
      s (.begun [patternMask s.store (fun e => e.covers g)],
         s.setStore ((s.store.undefineOver g).beginClear g))
  | _, s => badLength s

/-- The clear of a segment completes: BLANK, its words zero (R74, step 1). -/
def Store.finishClear (st : Store) (g : Fin 64) : Store :=
  { (st.setSeg g { state := .blank, fill := 0 }) with mem := st.mem.clearSegment g.val, clearing := none }

/-- The oldest queued segment's clear begins (R74, step 3). -/
def Store.nextClear (st : Store) : Store :=
  match st.clearQueue with
  | g :: rest =>
    { (st.setSeg g { state := .clearing, fill := 0 }) with clearing := some g, clearQueue := rest }
  | [] => st

/-- A clear completion (R74). -/
def completeClear (s : State) (g : Fin 64) : State :=
  let s1 := (s.setStore (s.store.finishClear g)).raiseDevice .clearDone 0 0
  s1.setStore s1.store.nextClear

/-- CLEAR_COMPLETION: the running clear completes; with none running the event does not arise (R74; log 1). -/
def execClearCompletion (s : State) : Result :=
  match s.store.clearing with
  | some g => if s.inReset then .next s else .next (completeClear s g)
  | none => .next s

/-! ## The wipe (R76, R77) -/

/-- The store an accepted WIPE_STORE leaves (R76). -/
def Store.beginWipe (st : Store) : Store :=
  { st with
    segs := tableMap (fun _ => { state := .clearing, fill := 0 }) st.segs
    mode := .wiping
    clearing := none
    clearQueue := []
    patterns := tableMap (fun e => { e with ready := false, frozen := false }) st.patterns }

/-- WIPE_STORE's checks and action (R76). -/
def wipeStoreAct : List Word → State → Answer × State
  | [], s =>
    checked
      [ (s.store.mode == .normal, .storeBusy),
        (!(indexes 32).any (fun k => decide (0 < (s.store.pattern k).uses)), .pinned) ]
      s (.begun [patternMask s.store (fun e => e.ready)], s.setStore s.store.beginWipe)
  | _, s => badLength s

/-- The store a wipe completion leaves (R77). -/
def Store.finishWipe (st : Store) : Store :=
  { st with
    segs := tableMap (fun _ => { state := .blank, fill := 0 }) st.segs
    mem := []
    mode := .normal
    clearing := none
    clearQueue := [] }

/-- WIPE_COMPLETION: the wipe completes; in NORMAL mode the event does not arise (R77; log 1). -/
def execWipeCompletion (s : State) : Result :=
  if !s.inReset && s.store.mode == .wiping then
    .next ((s.setStore s.store.finishWipe).raiseDevice .wipeDone 0 0)
  else .next s

/-! ## The Pattern Table (R78 to R82) -/

/-- Check 5 of DEFINE_PATTERN (R79): the span lies in the store, every segment of it but the last is FULL, and the last
holds at least the words that remain. -/
def Store.spanValid (st : Store) (first : Fin 64) (len : Nat) : Bool :=
  decide (first.val + spanOf len ≤ 64) &&
    (indexes 64).all (fun g =>
      if first.val ≤ g.val ∧ g.val + 1 < first.val + spanOf len then (st.seg g).state == .full
      else if g.val + 1 = first.val + spanOf len then
        ((st.seg g).state == .partly || (st.seg g).state == .full)
          && decide (len - Config.segmentWords * (spanOf len - 1) ≤ (st.seg g).fill)
      else true)

/-- DEFINE_PATTERN's checks and action (R79). -/
def definePatternAct : List Word → State → Answer × State
  | [wp, wf, wl], s =>
    let p := index 32 wp
    let e := s.store.pattern p
    checked
      [ (inRange wp 0 31, .outOfRange),
        (inRange wf 0 63, .outOfRange),
        (inRange wl 1 16384, .outOfRange),
        (!e.frozen, .frozen),
        (e.uses == 0, .pinned),
        (s.store.mode == .normal, .storeBusy),
        (s.store.spanValid (index 64 wf) wl.toNat, .spanInvalid) ]
      s (.good [], s.setStore (s.store.setPattern p
          { e with ready := true, first := index 64 wf, len := wl.toNat }))
  | _, s => badLength s

/-- UNDEFINE_PATTERN's checks and action (R80). -/
def undefinePatternAct : List Word → State → Answer × State
  | [wp], s =>
    let p := index 32 wp
    let e := s.store.pattern p
    checked
      [ (inRange wp 0 31, .outOfRange),
        (!e.frozen, .frozen),
        (e.uses == 0, .pinned) ]
      s (.good [], s.setStore (s.store.setPattern p { e with ready := false }))
  | _, s => badLength s

/-- FREEZE_PATTERN's checks and action (R81). -/
def freezePatternAct : List Word → State → Answer × State
  | [wp], s =>
    let p := index 32 wp
    let e := s.store.pattern p
    checked
      [ (inRange wp 0 31, .outOfRange),
        (e.ready, .notReady) ]
      s (.good [], s.setStore (s.store.setPattern p { e with frozen := true }))
  | _, s => badLength s

/-- READ_PATTERN's six words (R82). -/
def patternWords (e : Pattern) : List Word :=
  [Word.ofNat (one e.ready), Word.ofNat e.first.val, Word.ofNat e.len, Word.ofNat (spanOf e.len),
    Word.ofNat (one e.frozen), Word.ofNat e.uses]

/-- READ_PATTERN's check and action (R82). -/
def readPatternAct : List Word → State → Answer × State
  | [wp], s => checked [(inRange wp 0 31, .outOfRange)] s (.good (patternWords (s.store.pattern (index 32 wp))), s)
  | _, s => badLength s

/-- LOAD_WORDS (R70). -/
def execLoadWords (s : State) : Result := runCommand .loadWords loadWordsAct s

/-- READ_SEGMENT (R71). -/
def execReadSegment (s : State) : Result := runCommand .readSegment readSegmentAct s

/-- CLEAR_SEGMENT (R72, R73). -/
def execClearSegment (s : State) : Result := runCommand .clearSegment clearSegmentAct s

/-- WIPE_STORE (R76). -/
def execWipeStore (s : State) : Result := runCommand .wipeStore wipeStoreAct s

/-- DEFINE_PATTERN (R79). -/
def execDefinePattern (s : State) : Result := runCommand .definePattern definePatternAct s

/-- UNDEFINE_PATTERN (R80). -/
def execUndefinePattern (s : State) : Result := runCommand .undefinePattern undefinePatternAct s

/-- FREEZE_PATTERN (R81). -/
def execFreezePattern (s : State) : Result := runCommand .freezePattern freezePatternAct s

/-- READ_PATTERN (R82). -/
def execReadPattern (s : State) : Result := runCommand .readPattern readPatternAct s

/-! ## Engine reset (R85) -/

/-- A segment at an engine reset: a loaded one is kept, any other is FAULTED (R85). -/
def Segment.engineReset (x : Segment) : Segment :=
  match x.state with
  | .blank => x
  | .partly => x
  | .full => x
  | .clearQueued => .faulty
  | .clearing => .faulty
  | .faulted => .faulty

/-- The store at an engine reset (R85). While WIPING every segment is CLEARING, so every segment becomes FAULTED. -/
def Store.engineReset (st : Store) : Store :=
  { st with
    segs := tableMap (fun x => if st.mode = .wiping then Segment.faulty else x.engineReset) st.segs
    mode := .normal
    clearing := none
    clearQueue := []
    patterns := tableMap (fun e => { e with uses := 0 }) st.patterns }

end Sys2Proof.Machine
end

