-- ==== Sys2Proof/Machine/Management.lean ====
section
/-! DEFINITION. The Management Agent's own commands (R166, R169 to R171), the two resets (R171, R172) and the agent's next
execution. -/

namespace Sys2Proof.Machine

/-! ## UNKNOWN_COMMAND, IDENTIFY, ECHO -/

/-- The answer to a frame of R166's orders 1 to 3: status and code echo. -/
def unknownAnswer (f : ControlFrame) : Byte × Answer :=
  if f.badBody then (f.badBodyEcho, .fail .badLength) else (f.topByte, .fail .unknownCommand)

/-- UNKNOWN_COMMAND: the head of the Command Queue is refused at R166's orders 1 to 3; no state changes beyond the queue
and the reply. -/
def execUnknownCommand (s : State) : Result :=
  match s.ready with
  | none => .next s
  | some (f, rest) =>
    if f.row = .unknownCommand then
      .next ((s.dequeue rest).answer f (unknownAnswer f).1 (unknownAnswer f).2)
    else .next s

/-- IDENTIFY's action (R169). -/
def identifyAct : List Word → State → Answer × State
  | [], s =>
    (.good [Config.vendorCode, Config.partCode, Config.revision, Word.ofNat s.populated, s.addr.setWidth 32, 256, 64,
      32, 1024, s.agent.overruns], s)
  | _, s => badLength s

/-- IDENTIFY (R169). -/
def execIdentify (s : State) : Result := runCommand .identify identifyAct s

/-- ECHO's action (R170). -/
def echoAct : List Word → State → Answer × State
  | ws, s => (.good ws, s)

/-- ECHO (R170). -/
def execEcho (s : State) : Result := runCommand .echo echoAct s

/-! ## Engine reset (R171) -/

/-- A lane at an engine reset: modes, counters and last-served stream reset, frames kept (R54). -/
def Lane.engineReset (n : Lane) : Lane :=
  { n with egress := .client, ingress := .forward, counters := .zero, lastServed := 255 }

/-- The engine reset of every block, in one event (R171 and each chapter's reset rule). -/
def engineReset (s : State) : State :=
  { s with
    streams := tableMap (fun _ => Stream.reset) s.streams
    lanes := tableMap Lane.engineReset s.lanes
    window := .reset
    store := s.store.engineReset
    gates := tableMap (fun _ => Gate.reset) s.gates
    ring := .reset
    events := .reset
    agent := { s.agent with outbound := s.agent.outbound.filter (fun o => !o.notice) } }

/-- RESET_ENGINE's action (R171). -/
def resetEngineAct : List Word → State → Answer × State
  | [], s => (.good [], engineReset s)
  | _, s => badLength s

/-- RESET_ENGINE (R171). -/
def execResetEngine (s : State) : Result := runCommand .resetEngine resetEngineAct s

/-! ## Hardware reset (R172) -/

/-- The hardware-reset state of every block, held until the release; the straps as last sampled stand until then. -/
def hardwareReset (s : State) : State :=
  { State.reset with inReset := true, addr := s.addr, lanesStrap := s.lanesStrap, pending := s.pending }

/-- HARDWARE_RESET (R172). -/
def execHardwareReset (s : State) : Result := .next (hardwareReset s)

/-- RESET_RELEASE: the straps are sampled and the part runs; without a hardware reset to end, the event does not arise
(R38, R172; log 1). -/
def execResetRelease (addr : BitVec 6) (lanes : BitVec 2) (s : State) : Result :=
  if s.inReset then .next { s with inReset := false, addr := addr, lanesStrap := lanes } else .next s

/-! ## The agent's next execution (R166) -/

/-- The row the agent executes now, if it can execute. -/
def nextExecution (s : State) : Option Instr := s.ready.map (fun p => p.1.row)

end Sys2Proof.Machine
end

