-- ==== Sys2Proof/Machine/Streams.lean ====
section
/-! DEFINITION. The Stream Table's own commands (R17 to R20) and the tag window's (R36, R37). -/

namespace Sys2Proof.Machine

/-- The configuration of SET_STREAM's arguments 2 to 16, after their checks (R17, R18). -/
def configOf (eg ing kind inv fixed user len pace gate leap ver loss bad sev sil : Word) : StreamConfig where
  egressLane := index 16 eg
  ingressLane := index 16 ing
  kind := patternKindOf kind fixed user
  invert := decide (inv = 1)
  payloadLen := len.toNat
  pacing := pace.toNat
  gate := index 4 gate
  leapLimit := leap.toNat
  verifyCount := ver.toNat
  lossCount := loss.toNat
  badThreshold := bad.toNat
  severeThreshold := sev.toNat
  silenceTimeout := sil.toNat

/-- SET_STREAM's checks and action (R17, R18). The generator and checker parts stay, their stored pattern states among them,
whatever kind the new configuration names. -/
def setStreamAct : List Word → State → Answer × State
  | [w, eg, ing, kind, inv, fixed, user, len, pace, gate, leap, ver, loss, bad, sev, sil], s =>
    let i := index 256 w
    let r := s.stream i
    checked
      [ (inRange w 0 255, .outOfRange),
        (!r.active, .active),
        (inRange eg 0 15, .outOfRange),
        (inRange ing 0 15, .outOfRange),
        (s.present (index 16 eg), .noLane),
        (s.present (index 16 ing), .noLane),
        (inRange kind 0 7, .outOfRange),
        (inRange inv 0 1, .outOfRange),
        (kind != 7 || inRange user 0 31, .outOfRange),
        (inRange len 4 255, .outOfRange),
        (inRange pace 1 4095, .outOfRange),
        (inRange gate 0 3, .outOfRange),
        (inRange leap 0 15, .outOfRange),
        (inRange ver 1 15, .outOfRange),
        (inRange loss 1 15, .outOfRange),
        (inRange bad 1 8160, .outOfRange),
        (inRange sev 1 16777215, .outOfRange),
        (inRange sil 0 65535, .outOfRange) ]
      s (.good [], s.setStream i
          { r with
            configured := true
            config := configOf eg ing kind inv fixed user len pace gate leap ver loss bad sev sil })
  | _, s => badLength s

/-- The pattern kind's code (R17). -/
def PatternKind.code : PatternKind → Nat
  | .prbs .prbs7 => 0
  | .prbs .prbs9 => 1
  | .prbs .prbs11 => 2
  | .prbs .prbs15 => 3
  | .prbs .prbs23 => 4
  | .prbs .prbs31 => 5
  | .fixed _ => 6
  | .user _ => 7

/-- The fixed word, 0 when absent (R19). -/
def PatternKind.fixedWord : PatternKind → Word
  | .fixed w => w
  | .prbs _ => 0
  | .user _ => 0

/-- The user pattern number, 0 when absent (R19). -/
def PatternKind.userNumber : PatternKind → Nat
  | .user p => p.val
  | .prbs _ => 0
  | .fixed _ => 0

/-- READ_STREAM's configuration group, 16 words (R19). -/
def configWords (i : Fin 256) (c : StreamConfig) : List Word :=
  [Word.ofNat i.val, Word.ofNat c.egressLane.val, Word.ofNat c.ingressLane.val, Word.ofNat c.kind.code,
    Word.ofNat (one c.invert), c.kind.fixedWord, Word.ofNat c.kind.userNumber, Word.ofNat c.payloadLen,
    Word.ofNat c.pacing, Word.ofNat c.gate.val, Word.ofNat c.leapLimit, Word.ofNat c.verifyCount,
    Word.ofNat c.lossCount, Word.ofNat c.badThreshold, Word.ofNat c.severeThreshold, Word.ofNat c.silenceTimeout]

/-- READ_STREAM's states group, 4 words (R19). -/
def stateWords (r : Stream) : List Word :=
  [Word.ofNat (one r.configured), Word.ofNat r.gen.state.code, Word.ofNat r.chk.sync.code, r.events.setWidth 32]

/-- READ_STREAM's generator group, 14 words (R19), the pattern state in the form of the configured kind (R55). -/
def generatorWords (kind : PatternKind) (g : Generator) : List Word :=
  [Word.ofNat g.countdown, Word.ofNat (one g.due), g.nextSeq.setWidth 32, patternView kind g.pat, Word.ofNat g.interval,
    g.ditherMask.setWidth 32, g.ditherPhase.setWidth 32, Word.ofNat g.injCountdown, g.rotor.setWidth 32,
    Word.ofNat (one g.single), Word.ofNat g.burst, g.framesSent, g.paceSlips, g.bitsInjected]

/-- READ_STREAM's checker group, 11 words (R19), the pattern state in the form of the configured kind (R55). -/
def checkerWords (kind : PatternKind) (c : Checker) : List Word :=
  [c.expected.setWidth 32, patternView kind c.pat, Word.ofNat c.progress, Word.ofNat c.badRun, Word.ofNat c.silence, c.openBurst,
    c.tickErrors, Word.ofNat (one c.tickUnlocked), Word.ofNat (one c.lateStart), Word.ofNat (one c.unlockedSeen),
    Word.ofNat (one c.staleSeen)]

/-- READ_STREAM's cumulative group, 22 words (R19). -/
def cumulativeWords (c : Cumulative) : List Word :=
  wideWords c.bits ++ wideWords c.errs
    ++ [c.received, c.compared, c.errored, c.bad, c.lost, c.late, c.mismatches, c.resyncs, c.bursts, c.longest]
    ++ c.histogram.toList

/-- READ_STREAM's interval group, 17 words (R19). -/
def intervalWords (c : Interval) : List Word :=
  wideWords c.bits ++ wideWords c.errs
    ++ [c.received, c.compared, c.errored, c.bad, c.lost, c.late, c.mismatches.setWidth 32, c.resyncs.setWidth 32,
      c.erroredTicks.setWidth 32, c.severeTicks.setWidth 32, c.unavailTicks.setWidth 32, c.bursts.setWidth 32,
      c.longest]

/-- READ_STREAM's 84 words (R19). -/
def streamWords (i : Fin 256) (r : Stream) : List Word :=
  configWords i r.config ++ stateWords r ++ generatorWords r.config.kind r.gen
    ++ checkerWords r.config.kind r.chk ++ cumulativeWords r.chk.cum ++ intervalWords r.chk.ivl

/-- READ_STREAM's check and action (R19). -/
def readStreamAct : List Word → State → Answer × State
  | [w], s =>
    checked [(inRange w 0 255, .outOfRange)] s (.good (streamWords (index 256 w) (s.stream (index 256 w))), s)
  | _, s => badLength s

/-- A record with its cumulative set and its generator counters zeroed (R20). -/
def Stream.cleared (r : Stream) : Stream :=
  { r with
    gen := { r.gen with framesSent := 0, paceSlips := 0, bitsInjected := 0 }
    chk := { r.chk with cum := .zero } }

/-- CLEAR_COUNTS's check and action (R20). -/
def clearCountsAct : List Word → State → Answer × State
  | [w], s =>
    checked [(inRange w 0 255, .outOfRange)] s
      (.good [], s.setStream (index 256 w) (s.stream (index 256 w)).cleared)
  | _, s => badLength s

/-- A base with its low log2(size) bits cleared (R33, R36). -/
def alignBase (base : Nat) (size : WindowSize) : BitVec 16 := BitVec.ofNat 16 (base - base % size.value)

/-- Some stream with index at or above `from` has an active side (R36). -/
def State.activeFrom (s : State) (start : Nat) : Bool :=
  (tableWhere Stream.active s.streams).any (fun i => decide (start ≤ i.val))

/-- SET_WINDOW's action once the size is one of the four (R36, R37). -/
def setWindowTo (wbase : Word) (size : WindowSize) (s : State) : Answer × State :=
  let base := alignBase wbase.toNat size
  checked
    [ (base == s.window.base || !s.activeFrom 0, .windowInUse),
      (decide (s.window.size.value ≤ size.value) || !s.activeFrom size.value, .windowInUse) ]
    s (.good [base.setWidth 32, Word.ofNat size.value], { s with window := { base := base, size := size } })

/-- SET_WINDOW's checks and action (R36, R37). -/
def setWindowAct : List Word → State → Answer × State
  | [wbase, wsize], s =>
    match windowSizeOf wsize with
    | none => (.fail .outOfRange, s)
    | some size => checked [(inRange wbase 0 65535, .outOfRange)] s (setWindowTo wbase size s)
  | _, s => badLength s

/-- SET_STREAM (R17, R18). -/
def execSetStream (s : State) : Result := runCommand .setStream setStreamAct s

/-- READ_STREAM (R19). -/
def execReadStream (s : State) : Result := runCommand .readStream readStreamAct s

/-- CLEAR_COUNTS (R20). -/
def execClearCounts (s : State) : Result := runCommand .clearCounts clearCountsAct s

/-- SET_WINDOW (R36, R37). -/
def execSetWindow (s : State) : Result := runCommand .setWindow setWindowAct s

end Sys2Proof.Machine
end

