-- ==== Sys2Proof/Machine/Dispatch.lean ====
section
/-! DEFINITION. One arm per row of spec/opcode_table.json. -/

namespace Sys2Proof.Machine

def exec (i : Instr) (s : State) : Host.Outcome State Fault Refusal :=
  match i with
  | .clientInArrival lane frame => Sys2Proof.Machine.execClientInArrival lane frame s
  | .lineInArrival lane frame forwardFirst => Sys2Proof.Machine.execLineInArrival lane frame forwardFirst s
  | .lineOutOpportunity lane => Sys2Proof.Machine.execLineOutOpportunity lane s
  | .pacingExpiry stream => Sys2Proof.Machine.execPacingExpiry stream s
  | .rateInjection stream offered => Sys2Proof.Machine.execRateInjection stream offered s
  | .clientOutOpportunity lane => Sys2Proof.Machine.execClientOutOpportunity lane s
  | .waitingReplyEntry => Sys2Proof.Machine.execWaitingReplyEntry s
  | .t1ms order => Sys2Proof.Machine.execT1ms order s
  | .t10ms order => Sys2Proof.Machine.execT10ms order s
  | .t100ms order => Sys2Proof.Machine.execT100ms order s
  | .t1s order => Sys2Proof.Machine.execT1s order s
  | .syncIn order => Sys2Proof.Machine.execSyncIn order s
  | .silenceExpiry stream => Sys2Proof.Machine.execSilenceExpiry stream s
  | .intervalEnd gate => Sys2Proof.Machine.execIntervalEnd gate s
  | .gateOutPulseEnd => Sys2Proof.Machine.execGateOutPulseEnd s
  | .clearCompletion => Sys2Proof.Machine.execClearCompletion s
  | .wipeCompletion => Sys2Proof.Machine.execWipeCompletion s
  | .hardwareReset => Sys2Proof.Machine.execHardwareReset s
  | .resetRelease addr lanes => Sys2Proof.Machine.execResetRelease addr lanes s
  | .unknownCommand => Sys2Proof.Machine.execUnknownCommand s
  | .identify => Sys2Proof.Machine.execIdentify s
  | .echo => Sys2Proof.Machine.execEcho s
  | .resetEngine => Sys2Proof.Machine.execResetEngine s
  | .setStream => Sys2Proof.Machine.execSetStream s
  | .readStream => Sys2Proof.Machine.execReadStream s
  | .clearCounts => Sys2Proof.Machine.execClearCounts s
  | .startGen => Sys2Proof.Machine.execStartGen s
  | .stopGen => Sys2Proof.Machine.execStopGen s
  | .setInject => Sys2Proof.Machine.execSetInject s
  | .injectOne => Sys2Proof.Machine.execInjectOne s
  | .injectBurst => Sys2Proof.Machine.execInjectBurst s
  | .startChk => Sys2Proof.Machine.execStartChk s
  | .stopChk => Sys2Proof.Machine.execStopChk s
  | .restartChk => Sys2Proof.Machine.execRestartChk s
  | .setLane => Sys2Proof.Machine.execSetLane s
  | .readLane => Sys2Proof.Machine.execReadLane s
  | .setWindow => Sys2Proof.Machine.execSetWindow s
  | .loadWords => Sys2Proof.Machine.execLoadWords s
  | .readSegment => Sys2Proof.Machine.execReadSegment s
  | .clearSegment => Sys2Proof.Machine.execClearSegment s
  | .wipeStore => Sys2Proof.Machine.execWipeStore s
  | .definePattern => Sys2Proof.Machine.execDefinePattern s
  | .undefinePattern => Sys2Proof.Machine.execUndefinePattern s
  | .freezePattern => Sys2Proof.Machine.execFreezePattern s
  | .readPattern => Sys2Proof.Machine.execReadPattern s
  | .setGate => Sys2Proof.Machine.execSetGate s
  | .startGate => Sys2Proof.Machine.execStartGate s
  | .stopGate => Sys2Proof.Machine.execStopGate s
  | .readGate => Sys2Proof.Machine.execReadGate s
  | .fetchResults => Sys2Proof.Machine.execFetchResults s
  | .releaseResults => Sys2Proof.Machine.execReleaseResults s
  | .setRing => Sys2Proof.Machine.execSetRing s
  | .readRing => Sys2Proof.Machine.execReadRing s
  | .readEvents => Sys2Proof.Machine.execReadEvents s
  | .ackEvents => Sys2Proof.Machine.execAckEvents s
  | .setEventPolicy => Sys2Proof.Machine.execSetEventPolicy s

end Sys2Proof.Machine
end

