-- ==== Sys2Proof/WellFormed.lean ====
section
/-! DEFINITION. Well-formed commands: an order of sites names each site at most once, since a tick or edge is one
event at each place it reaches (R123, R130, R131). Lane, stream and gate numbers are bounded by their types. -/

namespace Sys2Proof

/-- The well-formedness check of one command. -/
def Instr.wellFormed (i : Instr) : Bool :=
  match i with
  | .t1ms order => decide order.Nodup
  | .t10ms order | .t100ms order | .t1s order | .syncIn order => decide order.Nodup
  | .clientInArrival _ _ | .lineInArrival _ _ _ | .lineOutOpportunity _ | .pacingExpiry _ | .rateInjection _ _
  | .clientOutOpportunity _ | .waitingReplyEntry | .silenceExpiry _ | .intervalEnd _ | .gateOutPulseEnd
  | .clearCompletion | .wipeCompletion | .hardwareReset | .resetRelease _ _ | .unknownCommand | .identify | .echo
  | .resetEngine | .setStream | .readStream | .clearCounts | .startGen | .stopGen | .setInject | .injectOne
  | .injectBurst | .startChk | .stopChk | .restartChk | .setLane | .readLane | .setWindow | .loadWords
  | .readSegment | .clearSegment | .wipeStore | .definePattern | .undefinePattern | .freezePattern | .readPattern
  | .setGate | .startGate | .stopGate | .readGate | .fetchResults | .releaseResults | .setRing | .readRing
  | .readEvents | .ackEvents | .setEventPolicy => true

end Sys2Proof
end

