-- ==== Sys2Proof/Safety.lean ====
section
/-! DEFINITION. What the spec says always holds of the part, as predicates on states, each closed under steps by itself;
and the words in which a statement says that a control frame is executed. -/

namespace Sys2Proof.Machine

/-! ## Queues and the ring (R46, R147, R165, R167, R168) -/

/-- The notices in the Outbound Queue. -/
def Agent.notices (a : Agent) : Nat := a.outbound.countP (fun o => o.notice)

/-- No queue passes its capacity; at most 6 queued frames are notices; a reply waits only at a full Outbound Queue;
the ring's mark lies in 1 to 1024 and its appended count is at least its fill. -/
def QueueLaw (s : State) : Prop :=
  (∀ l, (s.lane l).egressBuf.length ≤ Config.bufferCapacity ∧ (s.lane l).ingressBuf.length ≤ Config.bufferCapacity)
    ∧ s.agent.commands.length ≤ Config.commandCapacity
    ∧ s.agent.outbound.length ≤ Config.outboundCapacity
    ∧ s.agent.notices ≤ Config.noticeShare
    ∧ (∀ r, s.agent.waiting = some r → r.notice = false ∧ s.agent.outbound.length = Config.outboundCapacity)
    ∧ s.ring.records.length ≤ Config.ringCapacity
    ∧ s.ring.records.length ≤ s.ring.appended.toNat
    ∧ 1 ≤ s.ring.highWater ∧ s.ring.highWater ≤ Config.ringCapacity

/-! ## Pending sets (R156, R158) -/

/-- The Pending Stream List holds each stream at most once and exactly the streams whose set is not empty; a stream set
uses bits 1 to 5 alone, the device set bits 8 to 14 alone. -/
def PendingLaw (s : State) : Prop :=
  s.events.listed.Nodup
    ∧ (∀ i, i ∈ s.events.listed ↔ (s.stream i).events ≠ 0)
    ∧ (∀ i, (s.stream i).events &&& ~~~(BitVec.ofNat 16 streamKindMask) = 0)
    ∧ s.events.device &&& ~~~(BitVec.ofNat 16 deviceKindMask) = 0

/-! ## Counters and records (R16, R32) -/

/-- Bit errors never exceed bits compared, and severe ticks never exceed errored ticks. -/
def Interval.lawful (c : Interval) : Prop := c.errs ≤ c.bits ∧ c.severeTicks ≤ c.erroredTicks

/-- The inequalities of R16 in both counter sets of every stream and in every record the ring holds, and no record with
end sync state OFF (R32). -/
def CounterLaw (s : State) : Prop :=
  (∀ i, (s.stream i).chk.cum.errs ≤ (s.stream i).chk.cum.bits ∧ (s.stream i).chk.ivl.lawful)
    ∧ ∀ r ∈ s.ring.records, r.counts.lawful ∧ r.endState ≠ .off

/-! ## Gates (R132) -/

/-- A gate's count is below its length, its lengths are in range, a length is pending only while it is ARMED or OPEN, and
CHAIN is the source of gates 1 and 3 alone. -/
def Gate.lawful (x : Gate) (g : Fin 4) : Prop :=
  x.count < x.length ∧ x.length ≤ 65535
    ∧ (∀ n, x.pendingLength = some n → 1 ≤ n ∧ n ≤ 65535 ∧ x.state ≠ .idle)
    ∧ (x.source = .chain → g = 1 ∨ g = 3)

/-- Every gate is lawful. -/
def GateLaw (s : State) : Prop := ∀ g, (s.gate g).lawful g

/-! ## The tag window (R33, R35) -/

/-- The window's base is aligned to its size, and every stream with an active side has an index below the size. -/
def WindowLaw (s : State) : Prop :=
  s.window.base.toNat % s.window.size.value = 0
    ∧ ∀ i, (s.stream i).active = true → i.val < s.window.size.value

/-! ## Generators and lanes (R51, R86, R89, R90) -/

/-- A generator is RUNNING only under MIXED or TEST and HELD only under CLIENT, due only when RUNNING; an active one has a
countdown between 1 and P. -/
def Stream.genLawful (r : Stream) (m : EgressMode) : Prop :=
  (r.gen.state = .running → m ≠ .client)
    ∧ (r.gen.state = .held → m = .client)
    ∧ (r.gen.due = true → r.gen.state = .running)
    ∧ (r.gen.active = true → 1 ≤ r.gen.countdown ∧ r.gen.countdown ≤ r.config.pacing)
    ∧ 1 ≤ r.config.pacing

/-- Every generator is lawful under its egress lane's mode, and a lane in TEST holds an empty egress buffer. -/
def GeneratorLaw (s : State) : Prop :=
  (∀ i, (s.stream i).genLawful (s.lane (s.stream i).config.egressLane).egress)
    ∧ ∀ l, (s.lane l).egress = .test → (s.lane l).egressBuf = []

/-! ## Checkers (R11, R105, R107, R123, R126) -/

/-- Verify progress does not pass V and stays below it in VERIFY; the bad run stays below K; a burst is open only in
LOCKED; an OFF checker holds no burst, no tick errors and zero counts; the silence count is a 16-bit number. -/
def Stream.chkLawful (r : Stream) : Prop :=
  1 ≤ r.config.verifyCount ∧ 1 ≤ r.config.lossCount
    ∧ r.chk.progress ≤ r.config.verifyCount
    ∧ (r.chk.sync = .verify → r.chk.progress < r.config.verifyCount)
    ∧ r.chk.badRun < r.config.lossCount
    ∧ (r.chk.openBurst ≠ 0 → r.chk.sync = .locked)
    ∧ (r.chk.sync = .off →
        r.chk.progress = 0 ∧ r.chk.badRun = 0 ∧ r.chk.silence = 0 ∧ r.chk.ivl = .zero)
    ∧ r.chk.silence ≤ 65535

/-- Every checker is lawful. -/
def CheckerLaw (s : State) : Prop := ∀ i, (s.stream i).chkLawful

/-! ## The Pattern Store (R68, R69, R78) -/

/-- A segment's fill is the one its state allows (R68). -/
def Segment.lawful (x : Segment) : Prop :=
  match x.state with
  | .partly => 1 ≤ x.fill ∧ x.fill < Config.segmentWords
  | .full => x.fill = Config.segmentWords
  | .blank => x.fill = 0
  | .clearQueued => x.fill = 0
  | .clearing => x.fill = 0
  | .faulted => x.fill = 0

/-- The Clear Queue holds at most four segments, none twice, exactly the segments in CLEAR_QUEUED; in NORMAL mode the
clear machine is clearing exactly the segment in CLEARING, and the queue is empty unless it is; in WIPING mode the queue
is empty and every segment is CLEARING (R69, R76). -/
def Store.clearLawful (st : Store) : Prop :=
  st.clearQueue.Nodup ∧ st.clearQueue.length ≤ Config.clearCapacity
    ∧ (∀ g, g ∈ st.clearQueue ↔ (st.seg g).state = .clearQueued)
    ∧ match st.mode with
      | .normal =>
        (∀ g, st.clearing = some g ↔ (st.seg g).state = .clearing) ∧ (st.clearQueue ≠ [] → st.clearing ≠ none)
      | .wiping => st.clearQueue = [] ∧ st.clearing = none ∧ ∀ g, (st.seg g).state = .clearing

/-- A READY pattern has 1 to 16,384 words, and each of its positions lies in a segment of the store, below that segment's
fill (R60, R78, R79); a frozen and a pinned pattern are READY (R72). -/
def Store.patternLawful (st : Store) (e : Pattern) : Prop :=
  (e.ready = true →
      1 ≤ e.len ∧ e.len ≤ Config.storeWords
        ∧ ∀ i, i < e.len →
            ∃ g : Fin 64, g.val = e.first.val + i / Config.segmentWords ∧ i % Config.segmentWords < (st.seg g).fill)
    ∧ (e.frozen = true → e.ready = true)
    ∧ (0 < e.uses → e.ready = true)

/-- The store is lawful: its word list in the canonical form, which is the model's own (log 7), and its segments, its Clear
Queue and its patterns as R68, R69 and R78 say. -/
def StoreLaw (s : State) : Prop :=
  s.store.mem.wf = true
    ∧ (∀ g, (s.store.seg g).lawful)
    ∧ s.store.clearLawful
    ∧ ∀ p, s.store.patternLawful (s.store.pattern p)

/-! ## Use counts (R83) -/

/-- The active sides of a stream that use a pattern. -/
def Stream.sidesOn (r : Stream) (p : Fin 32) : Nat :=
  if r.config.kind = .user p then one r.gen.active + one r.chk.active else 0

/-- The active sides of all streams on a pattern. -/
def State.sidesOn (s : State) (p : Fin 32) : Nat := ((indexes 256).map (fun i => (s.stream i).sidesOn p)).sum

/-- Every pattern's use count is the number of active sides on it, and a pattern in use is READY. -/
def UseLaw (s : State) : Prop :=
  ∀ p, (s.store.pattern p).uses = s.sidesOn p ∧ (0 < (s.store.pattern p).uses → (s.store.pattern p).ready = true)

/-! ## Reset, presence and configurations (R3 to R8, R38, R172) -/

/-- Every field of a configuration is in its range (R5, R7, R8). -/
def StreamConfig.lawful (c : StreamConfig) : Prop :=
  4 ≤ c.payloadLen ∧ c.payloadLen ≤ 255 ∧ 1 ≤ c.pacing ∧ c.pacing ≤ 4095 ∧ c.leapLimit ≤ 15
    ∧ 1 ≤ c.verifyCount ∧ c.verifyCount ≤ 15 ∧ 1 ≤ c.lossCount ∧ c.lossCount ≤ 15
    ∧ 1 ≤ c.badThreshold ∧ c.badThreshold ≤ 8160 ∧ 1 ≤ c.severeThreshold ∧ c.severeThreshold ≤ 16777215
    ∧ c.silenceTimeout ≤ 65535

/-- An absent lane's state (R38). -/
def Lane.unused (n : Lane) : Prop :=
  n.egress = .client ∧ n.ingress = .forward ∧ n.egressBuf = [] ∧ n.ingressBuf = [] ∧ n.counters = .zero

/-- While a hardware reset holds the part every block is in its hardware-reset state; an absent lane holds nothing; every
configuration is in range, and its lanes are present. -/
def PresenceLaw (s : State) : Prop :=
  (s.inReset = true → s = hardwareReset s)
    ∧ (∀ l, s.present l = false → (s.lane l).unused)
    ∧ ∀ i, (s.stream i).config.lawful ∧ s.present (s.stream i).config.egressLane = true
        ∧ s.present (s.stream i).config.ingressLane = true

/-! ## The execution of a control frame (R166) -/

/-- The agent can execute frame `f` now, `rest` standing behind it in the Command Queue, and the frame is a whole one
carrying this command code (R166 orders 1 to 3 passed). -/
def Executing (s : State) (code : Byte) (f : ControlFrame) (rest : List ControlFrame) : Prop :=
  s.ready = some (f, rest) ∧ f.badBody = false ∧ f.topByte = code

/-- The part after the execution of `f` with this answer, `t` being the state the command's action leaves. -/
def State.replied (t : State) (f : ControlFrame) (a : Answer) : State := t.answer f f.topByte a

/-- The part after a refusal: nothing changes but the Command Queue and the reply (R166). -/
def State.refuses (s : State) (f : ControlFrame) (rest : List ControlFrame) (st : Status) : State :=
  (s.dequeue rest).replied f (.fail st)

/-- The argument counts a command accepts (R166's command index). -/
def acceptsCount (code : Byte) (n : Nat) : Bool :=
  match code.toNat with
  | 0x01 | 0x03 | 0x33 | 0x4B | 0x50 => n == 0
  | 0x02 => decide (n ≤ 254)
  | 0x10 => n == 16
  | 0x11 | 0x12 | 0x18 | 0x19 | 0x1B | 0x20 | 0x21 | 0x22 => n == 1
  | 0x1A | 0x28 | 0x31 | 0x34 => n == 3
  | 0x1C | 0x29 | 0x2A | 0x51 | 0x52 => n == 2
  | 0x30 => decide (2 ≤ n) && decide (n ≤ 65)
  | 0x32 | 0x35 | 0x36 | 0x37 | 0x41 | 0x42 | 0x43 | 0x48 | 0x49 | 0x4A => n == 1
  | 0x40 => n == 6
  | _ => false

/-- A code of R166's command index. -/
def knownCode (code : Byte) : Bool := rowOfCode code.toNat != .unknownCommand

end Sys2Proof.Machine
end

