-- ==== Sys2Proof/Certificates/Slice0/Obligations.lean ====
section
/-! DEFINITION. The statements for the provers. Where a statement speaks of a command, f is the control frame at the head
of the Command Queue and rest the frames behind it; an equation of the whole next state says as well what the command
leaves alone. -/

open Sys2Proof Sys2Proof.Machine

/-! ## The machine -/

/-- The event at the front of the queue is the one a step takes (log 1). -/
def Obligations.StepRunsTheFrontCommand : Prop :=
  ∀ (c : Instr) (s : State), step { s with pending := c :: s.pending } = exec c s

/-- With no event pending, a step is the agent's next execution (R166), or nothing (log 3). -/
def Obligations.StepWithNothingPending : Prop :=
  ∀ s : State, s.pending = [] →
    (∀ f rest, s.ready = some (f, rest) → step s = exec f.row s) ∧ (s.ready = none → step s = .next s)

/-- Every event of the table, in every state, ends in a next state, and leaves the queue of events alone. The queue, and that
an event which cannot arise in a state changes nothing there, are the model's choice (log 1); so is that the meanings answer
in states no run reaches (log 16). -/
def Obligations.EveryCommandAnswersNext : Prop :=
  ∀ (c : Instr) (s : State), ∃ t, exec c s = .next t ∧ t.pending = s.pending

/-- R172: a hardware reset puts every block in its reset state whatever it held; until the release no event but the
release changes anything; the release samples the straps. The straps standing as they were until then is the model's
choice (log 15). -/
def Obligations.HardwareResetAndRelease : Prop :=
  (∀ s : State, exec .hardwareReset s = .next
      { State.reset with inReset := true, addr := s.addr, lanesStrap := s.lanesStrap, pending := s.pending })
    ∧ (∀ (s : State) (a : BitVec 6) (n : BitVec 2), s.inReset = true →
        exec (.resetRelease a n) s = .next { s with inReset := false, addr := a, lanesStrap := n })
    ∧ (∀ (s : State) (a : BitVec 6) (n : BitVec 2), s.inReset = false → exec (.resetRelease a n) s = .next s)
    ∧ ∀ (c : Instr) (s : State), s.inReset = true → c ≠ .hardwareReset → (∀ a n, c ≠ .resetRelease a n) →
        c ≠ .gateOutPulseEnd → exec c s = .next s

/-- The values after a reset (R21, R33, R54, R84, R146, R155, R164, R172), every counter of each set among them. The address
and the LANES strap of State.reset are the model's choice (log 5), and so is its store memory, which lists nothing (log 6). -/
def Obligations.ResetValues : Prop :=
  Cumulative.zero =
      { bits := 0, errs := 0, received := 0, compared := 0, errored := 0, bad := 0, lost := 0, late := 0, mismatches := 0
        resyncs := 0, bursts := 0, longest := 0, histogram := Vector.replicate 8 0 }
    ∧ Interval.zero =
      { bits := 0, errs := 0, received := 0, compared := 0, errored := 0, bad := 0, lost := 0, late := 0, mismatches := 0
        resyncs := 0, erroredTicks := 0, severeTicks := 0, unavailTicks := 0, bursts := 0, longest := 0 }
    ∧ LaneCounters.zero =
      { passed := 0, dropped := 0, displaced := 0, testSent := 0, forwarded := 0, lineDropped := 0, headerErrors := 0
        foreign := 0, stray := 0, delivered := 0 }
    ∧ State.reset.store.mem = []
    ∧ (∀ i : Fin 256, State.reset.stream i =
      { configured := false
        config :=
          { egressLane := 0, ingressLane := 0, kind := .prbs .prbs31, invert := false, payloadLen := 64, pacing := 16,
            gate := 0, leapLimit := 3, verifyCount := 3, lossCount := 4, badThreshold := 64, severeThreshold := 1000,
            silenceTimeout := 100 }
        gen :=
          { state := .idle, countdown := 0, due := false, nextSeq := 0, pat := 0, interval := 0, ditherMask := 0,
            ditherPhase := 0, injCountdown := 0, rotor := 0, single := false, burst := 0, framesSent := 0,
            paceSlips := 0, bitsInjected := 0 }
        chk :=
          { sync := .off, expected := 0, pat := 0, progress := 0, badRun := 0, silence := 0, openBurst := 0,
            tickErrors := 0, tickUnlocked := false, lateStart := false, unlockedSeen := false, staleSeen := false,
            cum := .zero, ivl := .zero }
        events := 0 })
    ∧ (∀ l : Fin 16,
        (State.reset.lane l).egress = .client ∧ (State.reset.lane l).ingress = .forward
          ∧ (State.reset.lane l).egressBuf = [] ∧ (State.reset.lane l).ingressBuf = []
          ∧ (State.reset.lane l).counters = .zero ∧ (State.reset.lane l).lastServed = 255)
    ∧ State.reset.window = { base := 0, size := .s256 }
    ∧ (∀ g, State.reset.store.seg g = { state := .faulted, fill := 0 })
    ∧ State.reset.store.mode = .normal ∧ State.reset.store.clearing = none ∧ State.reset.store.clearQueue = []
    ∧ (∀ p, State.reset.store.pattern p = { ready := false, first := 0, len := 0, frozen := false, uses := 0 })
    ∧ (∀ g : Fin 4, State.reset.gate g =
        { state := .idle, source := .t1s, length := 1, pendingLength := none, count := 0, mode := .repeated,
          qualifier := .nextCount, marks := false, number := 0 })
    ∧ State.reset.gateOut = false
    ∧ State.reset.ring = { records := [], highWater := 768, appended := 0, lost := 0 }
    ∧ State.reset.events.device = 0 ∧ State.reset.events.listed = [] ∧ State.reset.events.drops = 0
    ∧ (∀ k, State.reset.policy k = .low)
    ∧ State.reset.agent = { commands := [], outbound := [], waiting := none, overruns := 0 }
    ∧ ∀ s : State, exec (.resetRelease 0 0) (hardwareReset s) = .next { State.reset with pending := s.pending }

/-! ## Frames and the Classifier -/

/-- R24, R28: CRC-8 of 31h..39h is F4h; a check byte is sound exactly when the check over it as well gives 0; every frame the
part builds has a sound header and reads back with every field and body word it was built from. -/
def Obligations.BuiltFramesReadBack : Prop :=
  crc8 [0x31, 0x32, 0x33, 0x34, 0x35, 0x36, 0x37, 0x38, 0x39] = 0xF4
    ∧ (∀ (bs : List Byte) (b : Byte), crc8 (bs ++ [b]) = 0 ↔ crc8 bs = b)
    ∧ ∀ (kind : Nat) (addr : BitVec 6) (tag seq : BitVec 16) (offset : Word) (body : List Word),
        1 ≤ kind → kind ≤ 4 → body.length ≤ 255 →
          (buildFrame kind addr tag seq offset body).hasMarker = true
            ∧ (buildFrame kind addr tag seq offset body).validHeader = true
            ∧ (buildFrame kind addr tag seq offset body).kind = kind
            ∧ (buildFrame kind addr tag seq offset body).version = 1
            ∧ (buildFrame kind addr tag seq offset body).byte 3 = addr.setWidth 8
            ∧ (buildFrame kind addr tag seq offset body).address = addr
            ∧ (buildFrame kind addr tag seq offset body).tag = tag
            ∧ (buildFrame kind addr tag seq offset body).sequence = seq
            ∧ (buildFrame kind addr tag seq offset body).offset = offset
            ∧ (buildFrame kind addr tag seq offset body).lengthField = body.length
            ∧ (buildFrame kind addr tag seq offset body).body.length = 4 * body.length
            ∧ (buildFrame kind addr tag seq offset body).words = body

/-- The window's sizes (R33) and the verdict on a frame (R23, R25, R34). -/
def Obligations.ClassifierVerdicts : Prop :=
  [WindowSize.s32, .s64, .s128, .s256].map WindowSize.value = [32, 64, 128, 256]
  ∧ ∀ (w : Window) (f : Frame),
    ((f.take 2 ≠ [0xB7, 0xE2]) → classify w f = .notProbe)
      ∧ (f.take 2 = [0xB7, 0xE2] →
          (f.length < 14 ∨ crc8 (f.take 13) ≠ f.byte 13 ∨ (f.byte 2).toNat / 16 = 0 ∨ 4 < (f.byte 2).toNat / 16
              ∨ (f.byte 2).toNat % 16 ≠ 1 →
            classify w f = .headerError)
          ∧ (14 ≤ f.length → crc8 (f.take 13) = f.byte 13 → (f.byte 2).toNat % 16 = 1 →
              ((f.byte 2).toNat / 16 = 2 → classify w f = .management true)
                ∧ ((f.byte 2).toNat / 16 = 3 ∨ (f.byte 2).toNat / 16 = 4 → classify w f = .management false)
                ∧ ((f.byte 2).toNat / 16 = 1 →
                    classify w f =
                      if h : ((f.byte 4 ++ f.byte 5 : BitVec 16) - w.base).toNat < w.size.value then
                        .testDecoded
                          ⟨((f.byte 4 ++ f.byte 5 : BitVec 16) - w.base).toNat, by
                            have : w.size.value ≤ 256 := by cases w.size <;> decide
                            omega⟩
                      else .testForeign)))

/-- R35: the test frame the Generator builds for a stream below the window size decodes, under the same window, to that
stream. -/
def Obligations.LoopedFrameDecodesToItsStream : Prop :=
  ∀ (s : State) (i : Fin 256), i.val < s.window.size.value → (s.stream i).config.payloadLen ≤ 255 →
    classify s.window (buildTest s i).2 = .testDecoded i
      ∧ (buildTest s i).2.tag = s.window.base + BitVec.ofNat 16 i.val

/-! ## Lanes -/

/-- CLIENT_IN_ARRIVAL on a lane that takes arrivals (R42, R43, R165), and on any other (R38, R172), the lanes present being
those below the count of the LANES strap (R38). On lane 0 a CONTROL frame
for the part's own address goes to the agent alone; a broadcast one goes to the agent and then on as a client frame (the
order is the model's reading, log 10); every other frame is a client frame. -/
def Obligations.ClientInArrival : Prop :=
  (∀ (s : State) (l : Fin 16), s.present l = true ↔ l.val < 4 * (s.lanesStrap.toNat + 1))
  ∧ ∀ (s : State) (l : Fin 16) (f : Frame),
    let client := fun t : State =>
      if (t.lane l).egress = .test then
        t.countLane l (fun c => { c with displaced := satAdd c.displaced 1 })
      else if (t.lane l).egressBuf.length < 4 then
        t.setLane l { t.lane l with egressBuf := (t.lane l).egressBuf ++ [f] }
      else (t.countLane l (fun c => { c with dropped := satAdd c.dropped 1 })).raiseDevice .bufferDrop 0 0
    let control := fun broadcast : Bool =>
      if s.agent.commands.length < 4 then
        s.setAgent { s.agent with commands := s.agent.commands ++ [{ broadcast := broadcast, bytes := f }] }
      else (s.setAgent { s.agent with overruns := satAdd s.agent.overruns 1 }).raiseDevice .cmdOverrun 0 0
    (s.inReset = true ∨ s.present l = false → exec (.clientInArrival l f) s = .next s)
      ∧ (s.inReset = false → s.present l = true →
          (l = 0 → classify s.window f = .management true → f.address = s.addr → s.addr ≠ 63 →
              exec (.clientInArrival l f) s = .next (control false))
            ∧ (l = 0 → classify s.window f = .management true → f.address = 63 →
              exec (.clientInArrival l f) s = .next (client (control true)))
            ∧ (l ≠ 0 ∨ classify s.window f ≠ .management true ∨ (f.address ≠ s.addr ∧ f.address ≠ 63) →
              exec (.clientInArrival l f) s = .next (client s)))

/-- LINE_IN_ARRIVAL on a lane that takes arrivals (R44, R45), and on any other. `ok` says that a decoded frame is
deliverable; in TAP the two effects come in the order the event names (log 9). A delivery writes the checker part of its
stream alone, as DeliveryBeforeLock and DeliveryUnderLock say it, under the state of the stream's gate at this event (R109,
R112), and raises its stream events in order (R158). -/
def Obligations.LineInArrival : Prop :=
  (∀ (s : State) (i : Fin 256) (f : Frame),
      let r := s.stream i
      let t := takeDelivery r.config s.store (decide ((s.gate r.config.gate).state = .opened)) f r.chk
      deliver s i f =
        t.2.foldl (fun u k => u.raiseStream i k) { s with streams := s.streams.set i { r with chk := t.1 } })
  ∧ ∀ (s : State) (l : Fin 16) (f : Frame) (first : Bool),
    let into := fun t : State =>
      if (t.lane l).ingressBuf.length < 4 then
        t.setLane l { t.lane l with ingressBuf := (t.lane l).ingressBuf ++ [f] }
      else (t.countLane l (fun c => { c with lineDropped := satAdd c.lineDropped 1 })).raiseDevice .bufferDrop 0 0
    let ok := fun i : Fin 256 =>
      (s.lane l).ingress ≠ .forward ∧ (s.stream i).chk.sync ≠ .off ∧ (s.stream i).config.ingressLane = l
    let delivered := s.countLane l (fun c => { c with delivered := satAdd c.delivered 1 })
    (s.inReset = true ∨ s.present l = false → exec (.lineInArrival l f first) s = .next s)
      ∧ (s.inReset = false → s.present l = true →
          (classify s.window f = .notProbe → exec (.lineInArrival l f first) s = .next (into s))
            ∧ (∀ b, classify s.window f = .management b → exec (.lineInArrival l f first) s = .next (into s))
            ∧ (classify s.window f = .headerError →
                exec (.lineInArrival l f first) s =
                  .next (into (s.countLane l (fun c => { c with headerErrors := satAdd c.headerErrors 1 }))))
            ∧ (classify s.window f = .testForeign →
                exec (.lineInArrival l f first) s =
                  .next (into (if (s.lane l).ingress = .forward then s
                    else s.countLane l (fun c => { c with foreign := satAdd c.foreign 1 }))))
            ∧ (∀ i, classify s.window f = .testDecoded i → ¬ ok i →
                exec (.lineInArrival l f first) s =
                  .next (into (if (s.lane l).ingress = .forward then s
                    else s.countLane l (fun c => { c with stray := satAdd c.stray 1 }))))
            ∧ (∀ i, classify s.window f = .testDecoded i → ok i → (s.lane l).ingress = .check →
                exec (.lineInArrival l f first) s = .next (deliver delivered i f))
            ∧ (∀ i, classify s.window f = .testDecoded i → ok i → (s.lane l).ingress = .tap →
                exec (.lineInArrival l f first) s =
                  .next (if first then deliver (into delivered) i f else into (deliver delivered i f))))

/-- R45: in TAP the delivery and the forwarding touch different state. Whichever comes first, the stream records, the lanes,
the pending sets and the list come out the same. -/
def Obligations.TapOrderIsIndependent : Prop :=
  ∀ (s : State) (l : Fin 16) (i : Fin 256) (f : Frame),
    let t := deliver (forward s l f) i f
    let u := forward (deliver s i f) l f
    t.streams = u.streams ∧ t.lanes = u.lanes ∧ t.events.device = u.events.device ∧ t.events.listed = u.events.listed

/-- LINE_OUT_OPPORTUNITY (R47); on an absent lane (R38) and under a reset (R172) nothing changes. The lineOut latch, which holds
what the opportunity sent or none, is the model's own (log 14). `paced` is the part after step 1; the test frame of the chosen stream i and its generator
part come from the build (R93, R94). -/
def Obligations.LineOutOpportunity : Prop :=
  ∀ (s : State) (l : Fin 16),
    let buffered := fun t : State =>
      match (t.lane l).egressBuf with
      | f :: rest =>
        t.setLane l
          { t.lane l with
            egressBuf := rest
            counters := { (t.lane l).counters with passed := satAdd (t.lane l).counters.passed 1 }
            lineOut := some f }
      | [] => t.setLane l { t.lane l with lineOut := none }
    let paced := paceLane s l
    (s.inReset = true ∨ s.present l = false → exec (.lineOutOpportunity l) s = .next s)
      ∧ (s.inReset = false → s.present l = true →
          ((s.lane l).egress = .client → exec (.lineOutOpportunity l) s = .next (buffered s))
            ∧ ((s.lane l).egress ≠ .client →
                (∀ i, arbiterChoice paced l = some i →
                  exec (.lineOutOpportunity l) s =
                    .next ((paced.setGen i (buildTest paced i).1).setLane l
                      { paced.lane l with
                        lastServed := i
                        counters :=
                          { (paced.lane l).counters with testSent := satAdd (paced.lane l).counters.testSent 1 }
                        lineOut := some (buildTest paced i).2 }))
                ∧ (arbiterChoice paced l = none → (s.lane l).egress = .mixed →
                  exec (.lineOutOpportunity l) s = .next (buffered paced))
                ∧ (arbiterChoice paced l = none → (s.lane l).egress = .test →
                  exec (.lineOutOpportunity l) s = .next (paced.setLane l { paced.lane l with lineOut := none }))))

/-- R92: the arbiter chooses a due stream of its lane, and no other due stream of the lane comes before it in the circular
order that starts after the last-served stream; it chooses none only when none is due. -/
def Obligations.ArbiterTakesTheNextDueStream : Prop :=
  ∀ (s : State) (l : Fin 16),
    let due := fun i : Fin 256 => (s.stream i).gen.due = true ∧ (s.stream i).config.egressLane = l
    let place := fun i : Fin 256 => (i - (s.lane l).lastServed - 1).val
    (∀ i, arbiterChoice s l = some i ↔ due i ∧ ∀ j, due j → place i ≤ place j)
      ∧ (arbiterChoice s l = none ↔ ∀ i, ¬ due i)

/-- PACING_EXPIRY, and the pacing of a whole lane (R89, R91): a RUNNING generator's countdown falls by 1; at 0 it reloads to P
and the stream becomes due, or, being due, counts a pace slip and raises PACE_SLIP; every other generator stands. The lane's
generators step in increasing index, so their PACE_SLIP raises come in that order. -/
def Obligations.PacingSteps : Prop :=
  (∀ (s : State) (i : Fin 256), s.inReset = false → (s.stream i).gen.state = .running → (s.stream i).gen.countdown = 1 →
      ((s.stream i).gen.due = false →
        exec (.pacingExpiry i) s =
          .next (s.setGen i { (s.stream i).gen with countdown := (s.stream i).config.pacing, due := true }))
      ∧ ((s.stream i).gen.due = true →
        exec (.pacingExpiry i) s =
          .next ((s.setGen i
            { (s.stream i).gen with
              countdown := (s.stream i).config.pacing
              paceSlips := satAdd (s.stream i).gen.paceSlips 1 }).raiseStream i .paceSlip)))
    ∧ (∀ (s : State) (i : Fin 256), (s.stream i).gen.state ≠ .running ∨ 1 < (s.stream i).gen.countdown →
        exec (.pacingExpiry i) s = .next s)
    ∧ (∀ (s : State) (l : Fin 16), ∃ order : List (Fin 256), order.Pairwise (· < ·)
        ∧ (∀ i, i ∈ order ↔ (s.stream i).gen.state = .running ∧ (s.stream i).config.egressLane = l)
        ∧ paceLane s l = order.foldl (fun t i =>
            let g := (t.stream i).gen
            let p := (t.stream i).config.pacing
            if 1 < g.countdown then t.setGen i { g with countdown := g.countdown - 1 }
            else if g.due = true then
              (t.setGen i { g with countdown := p, paceSlips := satAdd g.paceSlips 1 }).raiseStream i .paceSlip
            else t.setGen i { g with countdown := p, due := true }) s)
    ∧ ∀ (s : State) (l : Fin 16) (i : Fin 256),
        let g := (s.stream i).gen
        let p := (s.stream i).config.pacing
        ((paceLane s l).stream i).gen =
          (if g.state = .running ∧ (s.stream i).config.egressLane = l then
            if g.countdown ≤ 1 then
              if g.due then { g with countdown := p, paceSlips := satAdd g.paceSlips 1 }
              else { g with countdown := p, due := true }
            else { g with countdown := g.countdown - 1 }
          else g)
        ∧ ((paceLane s l).stream i).chk = (s.stream i).chk ∧ (paceLane s l).lanes = s.lanes

/-- The build of a test frame (R93, R94), and RATE_INJECTION with the three sources a generated word is offered to (R95 to
R97): the flips of one word, and everything they leave in the generator part. With N = 0 the rate source leaves its countdown
and phase alone. -/
def Obligations.TestFrameBuildAndInjection : Prop :=
  (∀ (s : State) (i : Fin 256),
      let cfg := (s.stream i).config
      let g := (s.stream i).gen
      let made := takeWords s.store cfg.kind cfg.invert cfg.payloadLen g.pat
      let offset : Word := match cfg.kind with | .user _ => g.pat | .prbs _ => 0 | .fixed _ => 0
      (buildTest s i).2 =
          buildFrame 1 s.addr (s.window.base + BitVec.ofNat 16 i.val) g.nextSeq offset (injectWords g made.1).2
        ∧ (buildTest s i).1 =
          { (injectWords g made.1).1 with
            due := false
            nextSeq := g.nextSeq + 1
            pat := made.2
            framesSent := satAdd g.framesSent 1 }
        ∧ (injectWords g made.1).2.length = cfg.payloadLen)
    ∧ (∀ (g : Generator) (w : Word),
        let strikes := g.interval ≠ 0 ∧ g.injCountdown ≤ 1
        let n := (if strikes then 1 else 0) + (if g.single then 1 else 0) + (if g.burst ≠ 0 then 1 else 0)
        (injectWord g w).2 = (List.range n).foldl (fun x k => x ^^^ ((1 : Word) <<< (g.rotor + BitVec.ofNat 5 k).toNat)) w
          ∧ (injectWord g w).1 =
            { g with
              rotor := g.rotor + BitVec.ofNat 5 n
              bitsInjected := satAdd g.bitsInjected n
              single := false
              burst := g.burst - 1
              injCountdown :=
                if strikes then g.interval + (if g.ditherMask.getLsbD g.ditherPhase.toNat then 1 else 0)
                else if g.interval = 0 then g.injCountdown
                else g.injCountdown - 1
              ditherPhase := if strikes then g.ditherPhase + 1 else g.ditherPhase })
    ∧ (∀ g : Generator, injectWords g [] = (g, []))
    ∧ (∀ (g : Generator) (w : Word) (ws : List Word),
        injectWords g (w :: ws) =
          ((injectWords (injectWord g w).1 ws).1, (injectWord g w).2 :: (injectWords (injectWord g w).1 ws).2))
    ∧ (∀ (s : State) (i : Fin 256) (w : Word),
        (s.stream i).gen.state ≠ .running ∨ (s.stream i).gen.interval = 0 ∨ 1 < (s.stream i).gen.injCountdown →
          exec (.rateInjection i w) s = .next s)
    ∧ ∀ (s : State) (i : Fin 256) (w : Word), s.inReset = false → (s.stream i).gen.state = .running →
        (s.stream i).gen.interval ≠ 0 → (s.stream i).gen.injCountdown = 1 →
          let g := (s.stream i).gen
          exec (.rateInjection i w) s =
            .next { s.setGen i
                { g with
                  rotor := g.rotor + 1
                  bitsInjected := satAdd g.bitsInjected 1
                  injCountdown := g.interval + (if g.ditherMask.getLsbD g.ditherPhase.toNat then 1 else 0)
                  ditherPhase := g.ditherPhase + 1 } with
              injected := w ^^^ ((1 : Word) <<< g.rotor.toNat) }

/-- CLIENT_OUT_OPPORTUNITY (R48, R167) and WAITING_REPLY_ENTRY (R167, log 4): on lane 0 the oldest frame of the Outbound Queue
goes first, and the waiting reply takes the place it leaves; on an absent lane (R38) and under a reset (R172) nothing changes.
The clientOut latch, which holds what the opportunity sent or none, is the model's own (log 14). -/
def Obligations.ClientOutOpportunity : Prop :=
  ∀ (s : State) (l : Fin 16),
    (s.inReset = true ∨ s.present l = false → exec (.clientOutOpportunity l) s = .next s)
      ∧ (s.inReset = false → s.present l = true →
          (∀ o rest, l = 0 → s.agent.outbound = o :: rest →
              exec (.clientOutOpportunity l) s =
                .next { s with
                  lanes := s.lanes.set 0 { s.lane 0 with clientOut := some o.bytes }
                  agent :=
                    (match s.agent.waiting with
                    | none => { s.agent with outbound := rest }
                    | some r =>
                      if rest.length < 8 then { s.agent with outbound := rest ++ [r], waiting := none }
                      else { s.agent with outbound := rest }) })
            ∧ (l ≠ 0 ∨ s.agent.outbound = [] →
              (∀ f rest, (s.lane l).ingressBuf = f :: rest →
                exec (.clientOutOpportunity l) s =
                  .next (s.setLane l
                    { s.lane l with
                      ingressBuf := rest
                      counters := { (s.lane l).counters with forwarded := satAdd (s.lane l).counters.forwarded 1 }
                      clientOut := some f }))
              ∧ ((s.lane l).ingressBuf = [] →
                exec (.clientOutOpportunity l) s = .next (s.setLane l { s.lane l with clientOut := none }))))
      ∧ (∀ r, s.inReset = false → s.agent.waiting = some r → s.agent.outbound.length < 8 →
          exec .waitingReplyEntry s =
            .next (s.setAgent { s.agent with outbound := s.agent.outbound ++ [r], waiting := none }))
      ∧ (s.agent.waiting = none ∨ 8 ≤ s.agent.outbound.length → exec .waitingReplyEntry s = .next s)

/-! ## Pattern sources -/

/-- R56 to R61: n and k of each polynomial; the output bits of a PRBS register obey its recurrence, its stages hold the latest bits, a register other than
0 never reaches 0; a word is the next 32 bits, first bit highest; a FIXED word repeats; a USER word is the store's word at
the position, which steps cyclically; invert complements the word and nothing else; the words of a frame follow one another,
each from the state the word before it leaves. -/
def Obligations.PatternWords : Prop :=
  [Prbs.prbs7, .prbs9, .prbs11, .prbs15, .prbs23, .prbs31].map (fun p => (p.stages, p.tap)) =
      [(7, 6), (9, 5), (11, 9), (15, 14), (23, 18), (31, 28)]
  ∧ (∀ p : Prbs, p.ones = BitVec.ofNat 32 (2 ^ p.stages - 1))
  ∧ (∀ (s : Store) (kind : PatternKind) (inv : Bool) (st : Word),
      takeWords s kind inv 0 st = ([], st)
        ∧ ∀ n, takeWords s kind inv (n + 1) st =
            ((nextWord s kind inv st).1 :: (takeWords s kind inv n (nextWord s kind inv st).2).1,
              (takeWords s kind inv n (nextWord s kind inv st).2).2))
  ∧ (∀ (p : Prbs) (st : Word),
      let bit := fun i : Nat => p.nextBit (p.leap i st)
      (∀ i, p.stages ≤ i → bit i = (bit (i - p.stages) ^^ bit (i - p.tap)))
        ∧ (∀ i j, 1 ≤ j → j ≤ p.stages → j ≤ i → (p.leap i st).getLsbD (j - 1) = bit (i - j))
        ∧ (∀ i, i < 32 → (p.run 32 0 st).1.getLsbD (31 - i) = bit i)
        ∧ (p.run 32 0 st).2 = p.leap 32 st
        ∧ p.step 0 = 0
        ∧ (st ≠ 0 → st &&& p.ones = st → p.step st ≠ 0 ∧ p.step st &&& p.ones = p.step st))
    ∧ (∀ (s : Store) (p : Prbs) (inv : Bool) (st : Word),
        nextWord s (.prbs p) inv st =
          (if inv then ~~~(p.run 32 0 st).1 else (p.run 32 0 st).1, p.leap 32 st))
    ∧ (∀ (s : Store) (w : Word) (inv : Bool) (st : Word),
        nextWord s (.fixed w) inv st = (if inv then ~~~w else w, st))
    ∧ ∀ (s : Store) (p : Fin 32) (inv : Bool) (st : Word), (s.pattern p).len ≤ 16384 →
        st.toNat < (s.pattern p).len →
          let w := s.mem.read (256 * ((s.pattern p).first.val + st.toNat / 256) + st.toNat % 256)
          (nextWord s (.user p) inv st).1 = (if inv then ~~~w else w)
            ∧ (nextWord s (.user p) inv st).2.toNat =
                (if st.toNat + 1 = (s.pattern p).len then 0 else st.toNat + 1)

/-- R65, R66: a compare counts, word by word, the bits in which the received words differ from the predicted ones, and leaves
the state past the frame; a leap reaches exactly the state that producing the words would. -/
def Obligations.LeapAndCompare : Prop :=
  (∀ (s : Store) (kind : PatternKind) (inv : Bool) (n : Nat) (st : Word),
      (∀ p, kind = .user p → (s.pattern p).len ≤ 16384 ∧ st.toNat < (s.pattern p).len) →
        leapWords s kind n st = (takeWords s kind inv n st).2)
    ∧ (∀ x : Word, onesCount x = ((List.range 32).filter (fun i => x.getLsbD i)).length)
    ∧ ∀ (s : Store) (kind : PatternKind) (inv : Bool) (ws : List Word) (st : Word),
        (compareWords s kind inv ws st).2 = (takeWords s kind inv ws.length st).2
          ∧ (compareWords s kind inv ws st).1 =
              List.zipWith (fun a b => onesCount (a ^^^ b)) (takeWords s kind inv ws.length st).1 ws
          ∧ ∀ e ∈ (compareWords s kind inv ws st).1, e ≤ 32

/-- R63: a PRBS checker that seeds from a clean frame of the stream ends it in the generator's own state with no bit error;
a seed of all zeros seeds nothing. -/
def Obligations.CleanFrameSeedsTheGeneratorsState : Prop :=
  ∀ (s : Store) (p : Prbs) (inv : Bool) (offset : Word) (n : Nat) (st : Word),
    let made := takeWords s (.prbs p) inv (n + 1) st
    (st ≠ 0 → st &&& p.ones = st → seedFrame s (.prbs p) inv offset made.1 = some (0, made.2))
      ∧ ∀ (w : Word) (ws : List Word), (if inv then ~~~w else w) >>> (32 - p.stages) = 0 →
          seedFrame s (.prbs p) inv offset (w :: ws) = none

/-- R63 to R65, a seeding frame of each kind, whatever errors it carries. PRBS: the register is the first n bits of word 0,
complemented first with invert on; a register of 0 seeds nothing; the rest of word 0 and the words after it are compared with
the register's continuation, and the state ends past them. FIXED: every word is compared with the fixed word, and the state is
0. USER: every word is compared from the offset's position on, and the state ends at (offset + length) mod L. -/
def Obligations.SeedingFramesOfEveryKind : Prop :=
  (∀ (s : Store) (p : Prbs) (inv : Bool) (offset w : Word) (ws : List Word),
      let x := if inv then ~~~w else w
      let seed := x >>> (32 - p.stages)
      let rest := takeWords s (.prbs p) inv ws.length (p.leap (32 - p.stages) seed)
      (∀ j, 1 ≤ j → j ≤ p.stages → seed.getLsbD (j - 1) = x.getLsbD (31 - (p.stages - j)))
        ∧ (seed = 0 → seedFrame s (.prbs p) inv offset (w :: ws) = none)
        ∧ (seed ≠ 0 →
            seedFrame s (.prbs p) inv offset (w :: ws) =
              some
                ((List.range (32 - p.stages)).countP
                    (fun i => p.nextBit (p.leap i seed) != x.getLsbD (31 - p.stages - i))
                  + (List.zipWith (fun a b => onesCount (a ^^^ b)) rest.1 ws).sum, rest.2)))
    ∧ (∀ (s : Store) (v : Word) (inv : Bool) (offset : Word) (ws : List Word),
        seedFrame s (.fixed v) inv offset ws =
          some ((ws.map (fun b => onesCount ((if inv then ~~~v else v) ^^^ b))).sum, 0))
    ∧ ∀ (s : Store) (p : Fin 32) (inv : Bool) (offset : Word) (ws : List Word),
        let made := takeWords s (.user p) inv ws.length offset
        seedFrame s (.user p) inv offset ws =
            some ((List.zipWith (fun a b => onesCount (a ^^^ b)) made.1 ws).sum, made.2)
          ∧ ((s.pattern p).len ≤ 16384 → offset.toNat < (s.pattern p).len →
              made.2.toNat = (offset.toNat + ws.length) % (s.pattern p).len)

/-! ## The checker -/

/-- R111: every ahead distance falls in exactly one sequence class. -/
def Obligations.SequenceClasses : Prop :=
  ∀ (f : Frame) (c : Checker) (leapLimit : Nat), leapLimit ≤ 15 →
    let d := (f.sequence.toNat + 65536 - c.expected.toNat) % 65536
    ahead f c = d
      ∧ (d = 0 → seqClass leapLimit (ahead f c) = .inSequence 0)
      ∧ (1 ≤ d → d ≤ leapLimit → seqClass leapLimit (ahead f c) = .inSequence d)
      ∧ (32768 ≤ d → seqClass leapLimit (ahead f c) = .late)
      ∧ (leapLimit < d → d < 32768 → seqClass leapLimit (ahead f c) = .jump)
      ∧ (f.sequence + 1 = c.expected → d = 65535 ∧ seqClass leapLimit (ahead f c) = .late)

/-- A delivery at a checker that is OFF, in HUNT or in VERIFY (R109, R110, R113 to R116), o saying that the stream's gate is
OPEN. -/
def Obligations.DeliveryBeforeLock : Prop :=
  ∀ (cfg : StreamConfig) (st : Store) (o : Bool) (f : Frame) (c : Checker),
    let c1 : Checker := { c.tally o { received := 1 } with silence := 0 }
    let hunted := fun x : Checker =>
      { x with sync := .hunt, progress := 0, badRun := 0, openBurst := 0, unlockedSeen := true, tickUnlocked := true }
    let outside := ∃ p, cfg.kind = .user p ∧ (st.pattern p).len ≤ f.offset.toNat
    let whole := 4 * f.lengthField ≤ f.body.length ∧ f.lengthField = cfg.payloadLen
    let missed := fun x : Checker => x.tally o { mismatches := 1 }
    let resync := fun x : Checker => x.tally o { resyncs := 1 }
    (c.sync = .off → takeDelivery cfg st o f c = (c, []))
      ∧ (c.sync = .hunt →
          (¬ whole → takeDelivery cfg st o f c = (c1, []))
            ∧ (whole → outside → takeDelivery cfg st o f c = (missed c1, []))
            ∧ (whole → ¬ outside → seedFrame st cfg.kind cfg.invert f.offset f.words = none →
                takeDelivery cfg st o f c = (c1, []))
            ∧ (whole → ¬ outside → ∀ errs pat, seedFrame st cfg.kind cfg.invert f.offset f.words = some (errs, pat) →
                (cfg.badThreshold < errs →
                  takeDelivery cfg st o f c = ({ c1 with pat := pat, expected := f.sequence + 1 }, []))
                ∧ (errs ≤ cfg.badThreshold → 1 < cfg.verifyCount →
                  takeDelivery cfg st o f c =
                    ({ c1 with
                        pat := pat, expected := f.sequence + 1, sync := .verify, progress := 1, openBurst := 0
                        unlockedSeen := true, tickUnlocked := true }, []))
                ∧ (errs ≤ cfg.badThreshold → cfg.verifyCount = 1 →
                  takeDelivery cfg st o f c =
                    ({ c1 with
                        pat := pat, expected := f.sequence + 1, sync := .locked, progress := 1, badRun := 0
                        openBurst := 0, unlockedSeen := true, tickUnlocked := true }, [.lockGained]))))
      ∧ (c.sync = .verify →
          (seqClass cfg.leapLimit (ahead f c) = .late → takeDelivery cfg st o f c = (c1, []))
            ∧ (seqClass cfg.leapLimit (ahead f c) = .jump →
                takeDelivery cfg st o f c = takeHunt cfg st o f (hunted (resync c1)))
            ∧ ∀ d, seqClass cfg.leapLimit (ahead f c) = .inSequence d →
                (¬ whole → takeDelivery cfg st o f c = (hunted (resync c1), []))
                ∧ (whole → outside → takeDelivery cfg st o f c = (hunted (resync (missed c1)), []))
                ∧ (whole → ¬ outside →
                    let r := compareWords st cfg.kind cfg.invert f.words
                      (leapWords st cfg.kind (d * cfg.payloadLen) c.pat)
                    let c2 : Checker := { c1 with pat := r.2, expected := f.sequence + 1 }
                    (cfg.badThreshold < r.1.sum → takeDelivery cfg st o f c = (hunted (resync c2), []))
                    ∧ (r.1.sum ≤ cfg.badThreshold → c.progress + 1 < cfg.verifyCount →
                        takeDelivery cfg st o f c = ({ c2 with progress := c.progress + 1 }, []))
                    ∧ (r.1.sum ≤ cfg.badThreshold → cfg.verifyCount ≤ c.progress + 1 →
                        takeDelivery cfg st o f c =
                          ({ c2 with progress := c.progress + 1, sync := .locked, badRun := 0 }, [.lockGained]))))

/-- A delivery at a checker in LOCKED or in STALE, the same in both but for the state a late frame leaves (R67, R105, R117 to
R122). The words of a compared frame are the configured payload length. That an alignment slip keeps the bad run on its entry
to VERIFY, as `c3` does, is the model's reading of R105 (log 18). -/
def Obligations.DeliveryUnderLock : Prop :=
  ∀ (cfg : StreamConfig) (st : Store) (o : Bool) (f : Frame) (c : Checker), c.sync = .locked ∨ c.sync = .stale →
    let c1 : Checker := { c.tally o { received := 1 } with silence := 0 }
    let hunted := fun x : Checker =>
      { x.tally o { resyncs := 1 } with
        sync := .hunt, progress := 0, badRun := 0, openBurst := 0, unlockedSeen := true, tickUnlocked := true }
    let settled := fun x : Checker =>
      if cfg.lossCount ≤ x.badRun then (hunted x, [.lockLost]) else ({ x with sync := .locked }, [])
    let outside := ∃ p, cfg.kind = .user p ∧ (st.pattern p).len ≤ f.offset.toNat
    let whole := 4 * f.lengthField ≤ f.body.length ∧ f.lengthField = cfg.payloadLen
    let leapt := fun n : Nat => leapWords st cfg.kind (n * cfg.payloadLen) c.pat
    (seqClass cfg.leapLimit (ahead f c) = .late → takeDelivery cfg st o f c = (c1.tally o { late := 1 }, []))
      ∧ (seqClass cfg.leapLimit (ahead f c) = .jump →
          takeDelivery cfg st o f c =
            ((takeHunt cfg st o f (hunted c1)).1, .lockLost :: (takeHunt cfg st o f (hunted c1)).2))
      ∧ ∀ d, seqClass cfg.leapLimit (ahead f c) = .inSequence d →
          let closed := fun t : Tally => (c1.tally o t).closeBurst o
          let c2 : Checker := if d = 0 then c1 else { closed { lost := d } with pat := leapt d }
          let slipped := ∃ p, cfg.kind = .user p ∧ f.offset ≠ c2.pat
          (¬ whole ∨ outside →
              takeDelivery cfg st o f c =
                settled { closed { lost := d, mismatches := 1 } with
                  pat := leapt (1 + d), expected := f.sequence + 1, badRun := c.badRun + 1 })
            ∧ (whole → ¬ outside → ¬ slipped →
                let r := compareWords st cfg.kind cfg.invert f.words c2.pat
                let errs := r.1.sum
                let bad := decide (cfg.badThreshold < errs)
                let c3 := c2.tally o
                  { bits := 32 * cfg.payloadLen, errs := errs, compared := 1, errored := one (decide (errs ≠ 0))
                    bad := one bad }
                let c4 : Checker :=
                  { c3 with
                    tickErrors := satAdd c.tickErrors errs
                    badRun := if bad then c.badRun + 1 else 0
                    pat := r.2
                    expected := f.sequence + 1 }
                takeDelivery cfg st o f c = settled (r.1.foldl (fun x e => x.burstWord o e) c4))
            ∧ (whole → ¬ outside → slipped →
                let r := compareWords st cfg.kind cfg.invert f.words f.offset
                let c3 : Checker :=
                  { c2.tally o { resyncs := 1 } with
                    pat := r.2, expected := f.sequence + 1, sync := .verify, progress := 1, openBurst := 0
                    unlockedSeen := true, tickUnlocked := true }
                (cfg.badThreshold < r.1.sum → takeDelivery cfg st o f c = (hunted c3, [.lockLost]))
                ∧ (r.1.sum ≤ cfg.badThreshold → 1 < cfg.verifyCount → takeDelivery cfg st o f c = (c3, [.lockLost]))
                ∧ (r.1.sum ≤ cfg.badThreshold → cfg.verifyCount = 1 →
                    takeDelivery cfg st o f c =
                      ({ c3 with sync := .locked, badRun := 0 }, [.lockLost, .lockGained])))

/-- A counter update goes into the cumulative set, and into the interval set as well when the stream's gate is OPEN (R112); the
burst monitor on one compared word, the histogram's bins, and the saturation of every counter (R14, R16, R125, R126). -/
def Obligations.BurstMonitorAndSaturation : Prop :=
  (∀ (c : Checker) (o : Bool) (t : Tally),
      c.tally o t =
        { c with
          cum :=
            { c.cum with
              bits := satAdd c.cum.bits t.bits, errs := satAdd c.cum.errs t.errs
              received := satAdd c.cum.received t.received, compared := satAdd c.cum.compared t.compared
              errored := satAdd c.cum.errored t.errored, bad := satAdd c.cum.bad t.bad
              lost := satAdd c.cum.lost t.lost, late := satAdd c.cum.late t.late
              mismatches := satAdd c.cum.mismatches t.mismatches, resyncs := satAdd c.cum.resyncs t.resyncs }
          ivl :=
            if o then
              { c.ivl with
                bits := satAdd c.ivl.bits t.bits, errs := satAdd c.ivl.errs t.errs
                received := satAdd c.ivl.received t.received, compared := satAdd c.ivl.compared t.compared
                errored := satAdd c.ivl.errored t.errored, bad := satAdd c.ivl.bad t.bad
                lost := satAdd c.ivl.lost t.lost, late := satAdd c.ivl.late t.late
                mismatches := satAdd c.ivl.mismatches t.mismatches, resyncs := satAdd c.ivl.resyncs t.resyncs }
            else c.ivl })
  ∧ (∀ (c : Checker) (o : Bool) (errs : Nat),
      (errs ≠ 0 → c.burstWord o errs = { c with openBurst := satAdd c.openBurst 1 })
        ∧ (errs = 0 → c.openBurst = 0 → c.burstWord o errs = c)
        ∧ (errs = 0 → c.openBurst ≠ 0 →
            let len := c.openBurst
            c.burstWord o errs =
              { c with
                openBurst := 0
                cum :=
                  { c.cum with
                    bursts := satAdd c.cum.bursts 1
                    longest := if c.cum.longest < len then len else c.cum.longest
                    histogram := c.cum.histogram.set (burstBin len.toNat)
                      (satAdd c.cum.histogram[burstBin len.toNat] 1) }
                ivl :=
                  if o then
                    { c.ivl with
                      bursts := satAdd c.ivl.bursts 1
                      longest := if c.ivl.longest < len then len else c.ivl.longest }
                  else c.ivl }))
    ∧ (∀ n : Nat, 1 ≤ n →
        (burstBin n).val =
          if n = 1 then 0 else if n ≤ 3 then 1 else if n ≤ 7 then 2 else if n ≤ 15 then 3 else if n ≤ 63 then 4
          else if n ≤ 255 then 5 else if n ≤ 1023 then 6 else 7)
    ∧ ∀ (w : Nat) (c : BitVec w) (d : Nat),
        (c.toNat + d < 2 ^ w → (satAdd c d).toNat = c.toNat + d)
          ∧ (2 ^ w ≤ c.toNat + d → (satAdd c d).toNat = 2 ^ w - 1)

/-- The silence timer (R123, R124): a tick advances the count in VERIFY and LOCKED, stopping at 65535, and the tick that brings
it to a timeout other than 0 is SILENCE_EXPIRY. -/
def Obligations.SilenceTimer : Prop :=
  ∀ (s : State) (i : Fin 256),
    let r := s.stream i
    let n := min (r.chk.silence + 1) 65535
    let runs := r.chk.sync = .verify ∨ r.chk.sync = .locked
    (¬ runs → tickChecker s i = s ∧ exec (.silenceExpiry i) s = .next s)
      ∧ (runs → r.config.silenceTimeout = 0 ∨ n ≠ r.config.silenceTimeout →
          tickChecker s i = s.setChk i { r.chk with silence := n } ∧ exec (.silenceExpiry i) s = .next s)
      ∧ (r.chk.sync = .verify → r.config.silenceTimeout ≠ 0 → n = r.config.silenceTimeout → s.inReset = false →
          exec (.silenceExpiry i) s = .next (tickChecker s i)
            ∧ tickChecker s i =
              s.setChk i
                { r.chk.tally (decide ((s.gate r.config.gate).state = .opened)) { resyncs := 1 } with
                  silence := n, sync := .hunt, progress := 0, badRun := 0, openBurst := 0, unlockedSeen := true
                  tickUnlocked := true })
      ∧ (r.chk.sync = .locked → r.config.silenceTimeout ≠ 0 → n = r.config.silenceTimeout → s.inReset = false →
          exec (.silenceExpiry i) s = .next (tickChecker s i)
            ∧ tickChecker s i =
              (s.setChk i
                { r.chk with
                  silence := n, sync := .stale, openBurst := 0, unlockedSeen := true, staleSeen := true
                  tickUnlocked := true }).raiseStream i .stale)

/-! ## Ticks, gates and the ring -/

/-- R123, R130, R131: a tick or an edge reaches each gate, and a T1MS tick each checker whose timer runs, exactly once, the
sites the event names first (the order is the event's, log 8); what it does at one gate. The divider held as milliseconds
modulo 1000 is the model's choice (log 11), and the count of pulses before the event, which all its gates share so that their
ends start one pulse, is the model's reading (log 12). -/
def Obligations.TicksReachEverySiteOnce : Prop :=
  ∀ s : State, s.inReset = false →
    (∀ order : List TickSite, ∃ sites : List TickSite, sites.Nodup ∧ (∀ g, .gate g ∈ sites)
        ∧ (∀ i, .checker i ∈ sites ↔ (s.stream i).chk.sync = .verify ∨ (s.stream i).chk.sync = .locked)
        ∧ (order.Nodup → order.filter (fun x => decide (x ∈ sites)) <+: sites)
        ∧ exec (.t1ms order) s =
          .next (sites.foldl (tickSite s.pulses) { s with ms := (s.ms + 1) % 1000 }))
      ∧ (∀ order : List (Fin 4), ∃ gates, gates.Perm (indexes 4) ∧ (order.Nodup → order <+: gates)
          ∧ exec (.t10ms order) s = .next (gates.foldl (tickGate .t10ms s.pulses) s)
          ∧ exec (.t100ms order) s = .next (gates.foldl (tickGate .t100ms s.pulses) s)
          ∧ exec (.t1s order) s = .next (gates.foldl (tickGate .t1s s.pulses) s)
          ∧ exec (.syncIn order) s = .next (gates.foldl (edgeGate s.pulses) s))
      ∧ (∀ i base, tickSite base s (.checker i) = tickChecker s i)
      ∧ (∀ g base, tickSite base s (.gate g) = tickGate .t1ms base s g)
      ∧ (∀ src g base, tickGate src base s g = if (s.gate g).source = src then countEvent base g s else s)
      ∧ ∀ g base, edgeGate base s g =
          if (s.gate g).state = .armed ∧ (s.gate g).qualifier = .syncEdge then openGate s g
          else if (s.gate g).source = .syncIn then countEvent base g s
          else s

/-- R133, R137, R138: what a count event does in each gate state, what an opening does to the members, how a member's tick is
classified, and the SEVERE_TICK raises of one count event, in increasing stream index. -/
def Obligations.CountEventsOpeningsAndTicks : Prop :=
  (∀ (s : State) (g : Fin 4) (base : Nat),
      ((s.gate g).state = .idle → countEvent base g s = s)
        ∧ ((s.gate g).state = .armed → (s.gate g).qualifier = .nextCount → countEvent base g s = openGate s g)
        ∧ ((s.gate g).state = .armed → (s.gate g).qualifier = .syncEdge → countEvent base g s = s)
        ∧ ((s.gate g).state = .opened →
            let counted := classifyMembers (s.setGate g { s.gate g with count := (s.gate g).count + 1 }) g
            countEvent base g s =
              if (s.gate g).count + 1 = (s.gate g).length then intervalEnd g false base counted else counted))
    ∧ (∀ (s : State) (g : Fin 4),
        openGate s g =
            { s with gates := s.gates.set g { s.gate g with state := .opened }, streams := (openGate s g).streams }
          ∧ ∀ i, (openGate s g).stream i =
              if (s.stream i).config.gate = g ∧ (s.stream i).chk.sync ≠ .off then
                { s.stream i with
                  chk :=
                    { (s.stream i).chk with
                      ivl := .zero, lateStart := false, staleSeen := false
                      unlockedSeen := decide ((s.stream i).chk.sync ≠ .locked), tickErrors := 0
                      tickUnlocked := decide ((s.stream i).chk.sync ≠ .locked) } }
              else s.stream i)
    ∧ (∀ (s : State) (g : Fin 4),
        (∀ i, i ∈ members s g ↔ (s.stream i).config.gate = g ∧ (s.stream i).chk.sync ≠ .off)
          ∧ (members s g).Pairwise (· < ·)
          ∧ classifyMembers s g = (members s g).foldl (fun t i =>
              let c := (t.stream i).chk
              let severe := c.tickUnlocked = false ∧ (t.stream i).config.severeThreshold < c.tickErrors.toNat
              let ivl : Interval :=
                if c.tickUnlocked then { c.ivl with unavailTicks := satAdd c.ivl.unavailTicks 1 }
                else if severe then
                  { c.ivl with severeTicks := satAdd c.ivl.severeTicks 1, erroredTicks := satAdd c.ivl.erroredTicks 1 }
                else if 0 < c.tickErrors.toNat then { c.ivl with erroredTicks := satAdd c.ivl.erroredTicks 1 }
                else c.ivl
              let t1 := t.setChk i { c with ivl := ivl, tickErrors := 0, tickUnlocked := decide (c.sync ≠ .locked) }
              if severe then t1.raiseStream i .severeTick else t1) s)
    ∧ ∀ (s : State) (g : Fin 4) (i : Fin 256),
        let c := (s.stream i).chk
        let ivl : Interval :=
          if c.tickUnlocked then { c.ivl with unavailTicks := satAdd c.ivl.unavailTicks 1 }
          else if (s.stream i).config.severeThreshold < c.tickErrors.toNat then
            { c.ivl with severeTicks := satAdd c.ivl.severeTicks 1, erroredTicks := satAdd c.ivl.erroredTicks 1 }
          else if 0 < c.tickErrors.toNat then { c.ivl with erroredTicks := satAdd c.ivl.erroredTicks 1 }
          else c.ivl
        ((classifyMembers s g).stream i).chk =
            (if (s.stream i).config.gate = g ∧ c.sync ≠ .off then
              { c with ivl := ivl, tickErrors := 0, tickUnlocked := decide (c.sync ≠ .locked) }
            else c)
          ∧ ((classifyMembers s g).stream i).gen = (s.stream i).gen
          ∧ (classifyMembers s g).gates = s.gates ∧ (classifyMembers s g).ring = s.ring

/-- INTERVAL_END and the steps of an interval end, full or partial (R32, R139 to R142). Steps 1 to 6 at every gate: the batch is
offered, which raises RING_HIGH and then RING_LOSS as due (R149), the members are made fresh, the gate goes on to its next
interval, GATE_END is raised with the gate and the number that ended (R31), and a pulse is started (pulses of one event being
one is the model's reading, log 12). Then step 7, the chained partner's count event (R141), and step 8. -/
def Obligations.IntervalEnds : Prop :=
  (∀ (s : State) (g : Fin 4), s.inReset = false → (s.gate g).state = .opened → (s.gate g).count + 1 = (s.gate g).length →
      exec (.intervalEnd g) s =
        .next (intervalEnd g false s.pulses
          (classifyMembers (s.setGate g { s.gate g with count := (s.gate g).length }) g)))
    ∧ (∀ (s : State) (g : Fin 4), (s.gate g).state ≠ .opened ∨ (s.gate g).count + 1 ≠ (s.gate g).length →
      exec (.intervalEnd g) s = .next s)
    ∧ (∀ (s : State) (g : Fin 4) (stop : Bool) (base : Nat),
        let x := s.gate g
        let isMember := fun r : Stream => r.config.gate = g ∧ r.chk.sync ≠ .off
        let fresh := fun r : Stream =>
          if isMember r then
            { r with
              chk :=
                { r.chk with
                  ivl := .zero, lateStart := false, staleSeen := false
                  unlockedSeen := decide (r.chk.sync ≠ .locked), tickErrors := 0
                  tickUnlocked := decide (r.chk.sync ≠ .locked) } }
          else r
        let batch := (members s g).map fun i =>
          { stream := i, gate := g, endState := (s.stream i).chk.sync, partialEnd := stop
            lateStart := (s.stream i).chk.lateStart, unlockedSeen := (s.stream i).chk.unlockedSeen
            staleSeen := (s.stream i).chk.staleSeen, number := x.number, counts := (s.stream i).chk.ivl : Record }
        let offered := if batch = [] then s else offer s batch
        let going : State :=
          { offered with
            streams := tableMap fresh s.streams
            gates := s.gates.set g
              { x with
                number := x.number + 1, count := 0, length := x.pendingLength.getD x.length, pendingLength := none } }
        let ended := going.raiseDevice .gateEnd (Word.ofNat g.val) x.number
        (∀ i, i ∈ members s g ↔ isMember (s.stream i)) ∧ (members s g).Pairwise (· < ·)
          ∧ (∀ i : Fin 256, (tableMap fresh s.streams)[i] = fresh (s.stream i))
          ∧ endInterval g stop base s = if x.marks then { ended with pulses := base + 1 } else ended)
    ∧ (∀ (s : State) (g : Fin 4) (stop : Bool) (base : Nat),
        let close := fun (h : Fin 4) (u : State) => u.setGate h { u.gate h with state := .idle }
        let t := endInterval g stop base s
        let fed :=
          match partner s g with
          | none => t
          | some h =>
            match (t.gate h).state with
            | .idle => t
            | .armed => if (t.gate h).qualifier = .nextCount then openGate t h else t
            | .opened =>
              let counted := classifyMembers (t.setGate h { t.gate h with count := (t.gate h).count + 1 }) h
              if (t.gate h).count + 1 = (t.gate h).length then
                let u := endInterval h false base counted
                if (u.gate h).mode = .single then close h u else u
              else counted
        intervalEnd g stop base s = if stop = true ∨ (fed.gate g).mode = .single then close g fed else fed)
    ∧ (∀ s : State, partner s 0 = (if (s.gate 1).source = .chain then some 1 else none)
        ∧ partner s 2 = (if (s.gate 3).source = .chain then some 3 else none)
        ∧ partner s 1 = none ∧ partner s 3 = none)
    ∧ ∀ (s : State) (g : Fin 4) (stop : Bool) (base : Nat), partner s g = none →
        let x := s.gate g
        let t := intervalEnd g stop base s
        t.gates = s.gates.set g
            { x with
              number := x.number + 1, count := 0, length := x.pendingLength.getD x.length, pendingLength := none
              state := if stop = true ∨ x.mode = .single then .idle else x.state }
          ∧ t.streams = (endInterval g stop base s).streams ∧ t.ring = (endInterval g stop base s).ring
          ∧ t.agent = (endInterval g stop base s).agent ∧ t.events = (endInterval g stop base s).events
          ∧ (s.policy (.device .gateEnd) ≠ .disabled → t.events.device.has 14 = true)
          ∧ t.pulses = (if x.marks then base + 1 else s.pulses)
          ∧ t.store = s.store ∧ t.lanes = s.lanes ∧ t.window = s.window

/-- R148, R149: an offer appends what fits, in order, counts and loses the rest, and raises RING_HIGH and then RING_LOSS as
due. -/
def Obligations.OffersToTheRing : Prop :=
  ∀ (s : State) (batch : List Record), s.ring.records.length ≤ 1024 →
    let k := 1024 - s.ring.records.length
    let taken : Ring :=
      { records := s.ring.records ++ batch.take k
        highWater := s.ring.highWater
        appended := satAdd s.ring.appended (min k batch.length)
        lost := satAdd s.ring.lost (batch.length - k) }
    let high := fun t : State =>
      if s.ring.records.length < s.ring.highWater ∧ s.ring.highWater ≤ s.ring.records.length + min k batch.length then
        t.raiseDevice .ringHigh 0 0
      else t
    let loss := fun t : State => if k < batch.length then t.raiseDevice .ringLoss taken.lost 0 else t
    offer s batch = loss (high { s with ring := taken }) ∧ taken.records.length ≤ 1024

/-- CLEAR_COMPLETION (R74), WIPE_COMPLETION (R77) and GATE_OUT_PULSE_END (R144, log 12), and where they do not arise (log 1). -/
def Obligations.CompletionsAndPulseEnd : Prop :=
  (∀ (s : State) (g : Fin 64), s.inReset = false → s.store.clearing = some g →
      let done : Store :=
        { s.store with
          segs := s.store.segs.set g { state := .blank, fill := 0 }
          mem := s.store.mem.clearSegment g.val
          clearing := none }
      (s.store.clearQueue = [] →
        exec .clearCompletion s = .next ({ s with store := done }.raiseDevice .clearDone 0 0))
      ∧ ∀ h rest, s.store.clearQueue = h :: rest →
        exec .clearCompletion s =
          .next ({ s with store :=
            { done with
              segs := done.segs.set h { state := .clearing, fill := 0 }
              clearing := some h
              clearQueue := rest } }.raiseDevice .clearDone 0 0))
    ∧ (∀ (m : Memory) (g : Fin 64) (a : Nat),
        (m.clearSegment g.val).read a = if a / 256 = g.val then 0 else m.read a)
    ∧ (∀ s : State, s.store.clearing = none → exec .clearCompletion s = .next s)
    ∧ (∀ s : State, s.inReset = false → s.store.mode = .wiping →
        exec .wipeCompletion s =
          .next ({ s with store :=
            { segs := Vector.replicate 64 { state := .blank, fill := 0 }
              mem := []
              mode := .normal
              clearing := none
              clearQueue := []
              patterns := s.store.patterns } }.raiseDevice .wipeDone 0 0))
    ∧ (∀ s : State, s.store.mode = .normal → exec .wipeCompletion s = .next s)
    ∧ ∀ s : State, exec .gateOutPulseEnd s = .next { s with pulses := s.pulses - 1 }
        ∧ (s.gateOut = true ↔ s.pulses ≠ 0)

/-! ## Commands of the agent -/

/-- IDENTIFY (R169) and ECHO (R170) -/
def Obligations.IdentifyAndEcho : Prop :=
  (∀ (s : State) (f : ControlFrame) (rest : List ControlFrame), Executing s 0x01 f rest →
      (f.args = [] →
        exec .identify s =
          .next ((s.dequeue rest).replied f (.good
            [0x41A7, 0x0E16, 2, Word.ofNat (4 * (s.lanesStrap.toNat + 1)), s.addr.setWidth 32, 256, 64, 32, 1024,
              s.agent.overruns])))
      ∧ (f.args ≠ [] → exec .identify s = .next (s.refuses f rest .badLength)))
    ∧ ∀ (s : State) (f : ControlFrame) (rest : List ControlFrame), Executing s 0x02 f rest →
        f.args.length ≤ 254 ∧ exec .echo s = .next ((s.dequeue rest).replied f (.good f.args))

/-- When the agent has a frame it can execute (R166, R167), and how its code and arguments are read (R29); R27 and R166 orders
1 to 4: a bad body, an unknown code and an argument count the command does not accept change nothing but the queue and the
reply. The echo for a body of 1 to 3 bytes is its first byte or 0, which of the two is open (log 13). That a command's row, UNKNOWN_COMMAND's among them, changes
nothing where the agent has no frame of that row to execute is the model's choice (log 1). -/
def Obligations.RefusedBeforeExecution : Prop :=
  (∀ (s : State) (f : ControlFrame) (rest : List ControlFrame),
      s.ready = some (f, rest) ↔ s.inReset = false ∧ s.agent.waiting = none ∧ s.agent.commands = f :: rest)
    ∧ (∀ f : ControlFrame,
        (f.badBody = true ↔ f.bytes.lengthField = 0 ∨ f.bytes.body.length < 4 * f.bytes.lengthField)
          ∧ f.topByte = f.bytes.byte 14 ∧ f.args = f.bytes.words.tail)
    ∧ (∀ (n : Nat) (k : Fin (n + 1)) (w : Word), w.toNat = k.val → index (n + 1) w = k)
    ∧ (∀ (s : State) (f : ControlFrame) (rest : List ControlFrame), s.ready = some (f, rest) →
      (f.bytes.lengthField = 0 →
          f.row = .unknownCommand ∧ exec .unknownCommand s = .next ((s.dequeue rest).answer f 0 (.fail .badLength)))
        ∧ (f.bytes.lengthField ≠ 0 → f.bytes.body.length < 4 * f.bytes.lengthField →
            f.row = .unknownCommand
              ∧ ∃ echo, exec .unknownCommand s = .next ((s.dequeue rest).answer f echo (.fail .badLength))
                ∧ (echo = f.topByte ∨ echo = 0)
                ∧ (4 ≤ f.bytes.body.length → echo = f.topByte) ∧ (f.bytes.body = [] → echo = 0))
        ∧ (f.badBody = false → knownCode f.topByte = false →
            f.row = .unknownCommand ∧ exec .unknownCommand s = .next (s.refuses f rest .unknownCommand))
        ∧ (f.badBody = false → knownCode f.topByte = true → f.row = rowOfCode f.topByte.toNat ∧ f.row ≠ .unknownCommand)
        ∧ (f.badBody = false → knownCode f.topByte = true → acceptsCount f.topByte f.args.length = false →
            exec f.row s = .next (s.refuses f rest .badLength)))
    ∧ ∀ (s : State) (c : Instr), (∃ code : Byte, rowOfCode code.toNat = c) →
        (s.ready = none → exec c s = .next s)
          ∧ ∀ f rest, s.ready = some (f, rest) → c ≠ f.row → exec c s = .next s

/-- RESET_ENGINE (R171; R21, R33, R54, R85, R146, R155, R164): the engine reset of every block; the queued commands, the
replies, the frames in the holding buffers, the Timebase, the straps and the overrun count stay. -/
def Obligations.EngineReset : Prop :=
  ∀ (s : State) (f : ControlFrame) (rest : List ControlFrame), Executing s 0x03 f rest →
    (f.args = [] →
        exec .resetEngine s =
          .next (State.replied
            { s with
              streams := State.reset.streams
              lanes := tableMap
                (fun n => { n with
                  egress := .client, ingress := .forward, counters := .zero, lastServed := 255 }) s.lanes
              window := { base := 0, size := .s256 }
              store :=
                { segs := tableMap
                    (fun x => if s.store.mode = .normal ∧ (x.state = .blank ∨ x.state = .partly ∨ x.state = .full) then x
                      else { state := .faulted, fill := 0 }) s.store.segs
                  mem := s.store.mem
                  mode := .normal
                  clearing := none
                  clearQueue := []
                  patterns := tableMap (fun e => { e with uses := 0 }) s.store.patterns }
              gates := State.reset.gates
              ring := { records := [], highWater := 768, appended := 0, lost := 0 }
              events := { device := 0, listed := [], policies := Vector.replicate 12 .low, drops := 0 }
              agent := { s.agent with commands := rest, outbound := s.agent.outbound.filter (fun o => !o.notice) } }
            f (.good [])))
      ∧ (f.args ≠ [] → exec .resetEngine s = .next (s.refuses f rest .badLength))

/-! ## Commands of the Stream Table -/

/-- SET_STREAM (R17, R18) and CLEAR_COUNTS (R20). -/
def Obligations.SetStreamAndClearCounts : Prop :=
  (∀ (s : State) (f : ControlFrame) (rest : List ControlFrame), Executing s 0x10 f rest →
      (∀ w eg ing kind inv fixed user len pace gate leap ver loss bad sev sil,
          f.args = [w, eg, ing, kind, inv, fixed, user, len, pace, gate, leap, ver, loss, bad, sev, sil] →
        let i := index 256 w
        let r := s.stream i
        exec .setStream s = .next (
          if 255 < w.toNat then s.refuses f rest .outOfRange
          else if r.gen.state ≠ .idle ∨ r.chk.sync ≠ .off then s.refuses f rest .active
          else if 15 < eg.toNat ∨ 15 < ing.toNat then s.refuses f rest .outOfRange
          else if s.populated ≤ eg.toNat ∨ s.populated ≤ ing.toNat then s.refuses f rest .noLane
          else if 7 < kind.toNat ∨ 1 < inv.toNat then s.refuses f rest .outOfRange
          else if kind = 7 ∧ 31 < user.toNat then s.refuses f rest .outOfRange
          else if len.toNat < 4 ∨ 255 < len.toNat ∨ pace.toNat < 1 ∨ 4095 < pace.toNat ∨ 3 < gate.toNat
              ∨ 15 < leap.toNat ∨ ver.toNat < 1 ∨ 15 < ver.toNat ∨ loss.toNat < 1 ∨ 15 < loss.toNat
              ∨ bad.toNat < 1 ∨ 8160 < bad.toNat ∨ sev.toNat < 1 ∨ 16777215 < sev.toNat ∨ 65535 < sil.toNat then
            s.refuses f rest .outOfRange
          else
            ((s.dequeue rest).setStream i
              { r with
                configured := true
                config :=
                  { egressLane := index 16 eg, ingressLane := index 16 ing, kind := patternKindOf kind fixed user
                    invert := decide (inv = 1), payloadLen := len.toNat, pacing := pace.toNat, gate := index 4 gate
                    leapLimit := leap.toNat, verifyCount := ver.toNat, lossCount := loss.toNat
                    badThreshold := bad.toNat, severeThreshold := sev.toNat, silenceTimeout := sil.toNat } }).replied
              f (.good [])))
      ∧ (f.args.length ≠ 16 → exec .setStream s = .next (s.refuses f rest .badLength)))
    ∧ ∀ (s : State) (f : ControlFrame) (rest : List ControlFrame), Executing s 0x12 f rest →
      (∀ w, f.args = [w] →
        let i := index 256 w
        let r := s.stream i
        exec .clearCounts s = .next (
          if 255 < w.toNat then s.refuses f rest .outOfRange
          else
            ((s.dequeue rest).setStream i
              { r with
                gen := { r.gen with framesSent := 0, paceSlips := 0, bitsInjected := 0 }
                chk := { r.chk with cum := .zero } }).replied f (.good [])))
      ∧ (f.args.length ≠ 1 → exec .clearCounts s = .next (s.refuses f rest .badLength))

/-- READ_STREAM's 84 words (R19), with the codes of R17 and R19; and what an accepted SET_STREAM wrote is what they read (R4,
R17). The pattern states have the form of the configured kind (R55): zeros above bit n − 1 of a PRBS register, 0 for FIXED, the
number itself for USER. That a stopped stream given another PRBS or USER kind shows what it stored, in that form, is the
model's reading (log 19). -/
def Obligations.ReadStreamWords : Prop :=
  [GenState.idle, .running, .held].map GenState.code = [0, 1, 2]
  ∧ [SyncState.off, .hunt, .verify, .locked, .stale].map SyncState.code = [0, 1, 2, 3, 4]
  ∧ [Prbs.prbs7, .prbs9, .prbs11, .prbs15, .prbs23, .prbs31].map (fun p => (PatternKind.prbs p).code) = [0, 1, 2, 3, 4, 5]
  ∧ (∀ w, (PatternKind.fixed w).code = 6 ∧ (PatternKind.fixed w).fixedWord = w ∧ (PatternKind.fixed w).userNumber = 0)
  ∧ (∀ p, (PatternKind.user p).code = 7 ∧ (PatternKind.user p).fixedWord = 0 ∧ (PatternKind.user p).userNumber = p.val)
  ∧ (∀ p, (PatternKind.prbs p).fixedWord = 0 ∧ (PatternKind.prbs p).userNumber = 0)
  ∧ (∀ (s : State) (f : ControlFrame) (rest : List ControlFrame), Executing s 0x11 f rest →
      (∀ w, f.args = [w] →
        let i := index 256 w
        let r := s.stream i
        let c := r.config
        let g := r.gen
        let k := r.chk
        let n := fun x : Nat => Word.ofNat x
        let m := k.cum
        let v := k.ivl
        let form := fun st : Word =>
          match c.kind with
          | .prbs p => st &&& BitVec.ofNat 32 (2 ^ p.stages - 1)
          | .fixed _ => 0
          | .user _ => st
        exec .readStream s = .next (
          if 255 < w.toNat then s.refuses f rest .outOfRange
          else
            (s.dequeue rest).replied f (.good (
              [n i.val, n c.egressLane.val, n c.ingressLane.val, n c.kind.code, n (one c.invert), c.kind.fixedWord,
                n c.kind.userNumber, n c.payloadLen, n c.pacing, n c.gate.val, n c.leapLimit, n c.verifyCount,
                n c.lossCount, n c.badThreshold, n c.severeThreshold, n c.silenceTimeout]
              ++ [n (one r.configured), n g.state.code, n k.sync.code, r.events.setWidth 32]
              ++ [n g.countdown, n (one g.due), g.nextSeq.setWidth 32, form g.pat, n g.interval, g.ditherMask.setWidth 32,
                g.ditherPhase.setWidth 32, n g.injCountdown, g.rotor.setWidth 32, n (one g.single), n g.burst,
                g.framesSent, g.paceSlips, g.bitsInjected]
              ++ [k.expected.setWidth 32, form k.pat, n k.progress, n k.badRun, n k.silence, k.openBurst, k.tickErrors,
                n (one k.tickUnlocked), n (one k.lateStart), n (one k.unlockedSeen), n (one k.staleSeen)]
              ++ [(m.bits >>> 32).setWidth 32, m.bits.setWidth 32, (m.errs >>> 32).setWidth 32, m.errs.setWidth 32,
                m.received, m.compared, m.errored, m.bad, m.lost, m.late, m.mismatches, m.resyncs, m.bursts, m.longest]
              ++ m.histogram.toList
              ++ [(v.bits >>> 32).setWidth 32, v.bits.setWidth 32, (v.errs >>> 32).setWidth 32, v.errs.setWidth 32,
                v.received, v.compared, v.errored, v.bad, v.lost, v.late, v.mismatches.setWidth 32,
                v.resyncs.setWidth 32, v.erroredTicks.setWidth 32, v.severeTicks.setWidth 32,
                v.unavailTicks.setWidth 32, v.bursts.setWidth 32, v.longest]))))
      ∧ (f.args.length ≠ 1 → exec .readStream s = .next (s.refuses f rest .badLength)))
    ∧ (∀ (i : Fin 256) (r : Stream), (streamWords i r).length = 84)
    ∧ ∀ w eg ing kind inv fixed user len pace gate leap ver loss bad sev sil : Word,
        w.toNat ≤ 255 → eg.toNat ≤ 15 → ing.toNat ≤ 15 → kind.toNat ≤ 7 → inv.toNat ≤ 1 →
        (kind = 7 → user.toNat ≤ 31) → gate.toNat ≤ 3 →
          configWords (index 256 w) (configOf eg ing kind inv fixed user len pace gate leap ver loss bad sev sil) =
            [w, eg, ing, kind, inv, if kind = 6 then fixed else 0, if kind = 7 then user else 0, len, pace, gate, leap,
              ver, loss, bad, sev, sil]

/-- SET_WINDOW (R36), and the window it stores and answers (R37). -/
def Obligations.SetWindow : Prop :=
  ∀ (s : State) (f : ControlFrame) (rest : List ControlFrame), Executing s 0x2A f rest →
    (∀ wb ws, f.args = [wb, ws] →
      let aligned := wb.toNat - wb.toNat % ws.toNat
      let active := fun i : Fin 256 => (s.stream i).gen.state ≠ .idle ∨ (s.stream i).chk.sync ≠ .off
      (65535 < wb.toNat ∨ (ws ≠ 32 ∧ ws ≠ 64 ∧ ws ≠ 128 ∧ ws ≠ 256) →
          exec .setWindow s = .next (s.refuses f rest .outOfRange))
        ∧ (wb.toNat ≤ 65535 → (ws = 32 ∨ ws = 64 ∨ ws = 128 ∨ ws = 256) →
          (aligned ≠ s.window.base.toNat → (∃ i, active i) →
            exec .setWindow s = .next (s.refuses f rest .windowInUse))
          ∧ (ws.toNat < s.window.size.value → (∃ i : Fin 256, ws.toNat ≤ i.val ∧ active i) →
            exec .setWindow s = .next (s.refuses f rest .windowInUse))
          ∧ ((aligned = s.window.base.toNat ∨ ¬ ∃ i, active i) →
              (s.window.size.value ≤ ws.toNat ∨ ¬ ∃ i : Fin 256, ws.toNat ≤ i.val ∧ active i) →
            ∃ size : WindowSize, size.value = ws.toNat
              ∧ exec .setWindow s =
                .next (State.replied
                  { s.dequeue rest with window := { base := BitVec.ofNat 16 aligned, size := size } }
                  f (.good [Word.ofNat aligned, ws])))))
    ∧ (f.args.length ≠ 2 → exec .setWindow s = .next (s.refuses f rest .badLength))

/-! ## Commands of the Generator -/

/-- START_GEN (R83, R86, R87) and STOP_GEN (R88), and the one entry whose use count a start or a stop changes (R83). -/
def Obligations.StartGenAndStopGen : Prop :=
  (∀ (st : Store) (n : Nat → Nat),
      (∀ p, st.use (.prbs p) n = st) ∧ (∀ w, st.use (.fixed w) n = st)
        ∧ ∀ p : Fin 32, st.use (.user p) n =
            { st with patterns := st.patterns.set p { st.pattern p with uses := n (st.pattern p).uses } })
  ∧ (∀ (s : State) (f : ControlFrame) (rest : List ControlFrame), Executing s 0x18 f rest →
      (∀ w, f.args = [w] →
        let i := index 256 w
        let r := s.stream i
        let held := decide ((s.lane r.config.egressLane).egress = .client)
        exec .startGen s = .next (
          if 255 < w.toNat then s.refuses f rest .outOfRange
          else if r.configured = false then s.refuses f rest .notConfigured
          else if r.gen.state ≠ .idle then s.refuses f rest .active
          else if s.window.size.value ≤ i.val then s.refuses f rest .outOfWindow
          else if ∃ p, r.config.kind = .user p ∧ (s.store.pattern p).ready = false then s.refuses f rest .notReady
          else
            (((s.dequeue rest).setGen i
              { r.gen with
                state := if held then .held else .running
                countdown := r.config.pacing
                due := false
                nextSeq := 0
                pat := match r.config.kind with | .prbs p => p.ones | .fixed _ => 0 | .user _ => 0
                injCountdown := r.gen.interval
                ditherPhase := 0
                rotor := 0
                single := false
                burst := 0 }).setStore (s.store.use r.config.kind (· + 1))).replied f (.good [if held then 2 else 1])))
      ∧ (f.args.length ≠ 1 → exec .startGen s = .next (s.refuses f rest .badLength)))
    ∧ ∀ (s : State) (f : ControlFrame) (rest : List ControlFrame), Executing s 0x19 f rest →
      (∀ w, f.args = [w] →
        let i := index 256 w
        let r := s.stream i
        exec .stopGen s = .next (
          if 255 < w.toNat then s.refuses f rest .outOfRange
          else if r.gen.state = .idle then s.refuses f rest .notActive
          else
            (((s.dequeue rest).setGen i { r.gen with state := .idle, due := false, single := false, burst := 0 }).setStore
              (s.store.use r.config.kind (· - 1))).replied f (.good [r.gen.nextSeq.setWidth 32])))
      ∧ (f.args.length ≠ 1 → exec .stopGen s = .next (s.refuses f rest .badLength))

/-- SET_INJECT (R98), INJECT_ONE (R99) and INJECT_BURST (R100). -/
def Obligations.InjectionCommands : Prop :=
  (∀ (s : State) (f : ControlFrame) (rest : List ControlFrame), Executing s 0x1A f rest →
      (∀ w n mask, f.args = [w, n, mask] →
        let i := index 256 w
        let r := s.stream i
        exec .setInject s = .next (
          if 255 < w.toNat then s.refuses f rest .outOfRange
          else if r.configured = false then s.refuses f rest .notConfigured
          else if 65535 < n.toNat ∨ 15 < mask.toNat then s.refuses f rest .outOfRange
          else
            ((s.dequeue rest).setGen i
              { r.gen with
                interval := n.toNat, ditherMask := mask.setWidth 4, injCountdown := n.toNat, ditherPhase := 0 }).replied
              f (.good [])))
      ∧ (f.args.length ≠ 3 → exec .setInject s = .next (s.refuses f rest .badLength)))
    ∧ (∀ (s : State) (f : ControlFrame) (rest : List ControlFrame), Executing s 0x1B f rest →
      (∀ w, f.args = [w] →
        let i := index 256 w
        let r := s.stream i
        exec .injectOne s = .next (
          if 255 < w.toNat then s.refuses f rest .outOfRange
          else if r.gen.state = .idle then s.refuses f rest .notActive
          else if r.gen.single = true then s.refuses f rest .injectPending
          else ((s.dequeue rest).setGen i { r.gen with single := true }).replied f (.good [])))
      ∧ (f.args.length ≠ 1 → exec .injectOne s = .next (s.refuses f rest .badLength)))
    ∧ ∀ (s : State) (f : ControlFrame) (rest : List ControlFrame), Executing s 0x1C f rest →
      (∀ w b, f.args = [w, b] →
        let i := index 256 w
        let r := s.stream i
        exec .injectBurst s = .next (
          if 255 < w.toNat then s.refuses f rest .outOfRange
          else if b.toNat < 1 ∨ 255 < b.toNat then s.refuses f rest .outOfRange
          else if r.gen.state = .idle then s.refuses f rest .notActive
          else if r.gen.burst ≠ 0 then s.refuses f rest .injectPending
          else ((s.dequeue rest).setGen i { r.gen with burst := b.toNat }).replied f (.good [])))
      ∧ (f.args.length ≠ 2 → exec .injectBurst s = .next (s.refuses f rest .badLength))

/-! ## Commands of the Checker -/

/-- START_CHK (R105, R106). -/
def Obligations.StartChk : Prop :=
  ∀ (s : State) (f : ControlFrame) (rest : List ControlFrame), Executing s 0x20 f rest →
    (∀ w, f.args = [w] →
      let i := index 256 w
      let r := s.stream i
      let late := decide ((s.gate r.config.gate).state = .opened)
      exec .startChk s = .next (
        if 255 < w.toNat then s.refuses f rest .outOfRange
        else if r.configured = false then s.refuses f rest .notConfigured
        else if r.chk.sync ≠ .off then s.refuses f rest .active
        else if s.window.size.value ≤ i.val then s.refuses f rest .outOfWindow
        else if ∃ p, r.config.kind = .user p ∧ (s.store.pattern p).ready = false then s.refuses f rest .notReady
        else
          (((s.dequeue rest).setChk i
            { r.chk with
              sync := .hunt
              expected := 0
              pat := 0
              progress := 0
              badRun := 0
              silence := 0
              openBurst := 0
              tickErrors := 0
              tickUnlocked := true
              lateStart := late
              unlockedSeen := true
              staleSeen := false
              ivl := .zero }).setStore (s.store.use r.config.kind (· + 1))).replied f (.good [if late then 1 else 0])))
    ∧ (f.args.length ≠ 1 → exec .startChk s = .next (s.refuses f rest .badLength))

/-- STOP_CHK (R107) and RESTART_CHK (R108). -/
def Obligations.StopAndRestartChk : Prop :=
  (∀ (s : State) (f : ControlFrame) (rest : List ControlFrame), Executing s 0x21 f rest →
      (∀ w, f.args = [w] →
        let i := index 256 w
        let r := s.stream i
        exec .stopChk s = .next (
          if 255 < w.toNat then s.refuses f rest .outOfRange
          else if r.chk.sync = .off then s.refuses f rest .notActive
          else
            (((s.dequeue rest).setChk i
              { r.chk with
                sync := .off
                progress := 0
                badRun := 0
                silence := 0
                openBurst := 0
                tickErrors := 0
                tickUnlocked := false
                lateStart := false
                unlockedSeen := false
                staleSeen := false
                ivl := .zero }).setStore (s.store.use r.config.kind (· - 1))).replied f
              (.good [Word.ofNat r.chk.sync.code])))
      ∧ (f.args.length ≠ 1 → exec .stopChk s = .next (s.refuses f rest .badLength)))
    ∧ ∀ (s : State) (f : ControlFrame) (rest : List ControlFrame), Executing s 0x22 f rest →
      (∀ w, f.args = [w] →
        let i := index 256 w
        let r := s.stream i
        let hunted := fun c : Checker =>
          { c with sync := .hunt, progress := 0, badRun := 0, openBurst := 0, unlockedSeen := true, tickUnlocked := true }
        exec .restartChk s = .next (
          if 255 < w.toNat then s.refuses f rest .outOfRange
          else if r.chk.sync = .off then s.refuses f rest .notActive
          else if r.chk.sync = .locked ∨ r.chk.sync = .stale then
            (((s.dequeue rest).setChk i
              (hunted (r.chk.tally (decide ((s.gate r.config.gate).state = .opened)) { resyncs := 1 }))).raiseStream i
              .lockLost).replied f (.good [Word.ofNat r.chk.sync.code])
          else ((s.dequeue rest).setChk i (hunted r.chk)).replied f (.good [Word.ofNat r.chk.sync.code])))
      ∧ (f.args.length ≠ 1 → exec .restartChk s = .next (s.refuses f rest .badLength))

/-! ## Commands of the lanes -/

/-- SET_LANE (R51) and READ_LANE (R53). -/
def Obligations.LaneCommands : Prop :=
  (∀ (s : State) (f : ControlFrame) (rest : List ControlFrame), Executing s 0x28 f rest →
      (∀ w weg wing, f.args = [w, weg, wing] →
        let l := index 16 w
        let n := s.lane l
        let eg : EgressMode := if weg = 0 then .client else if weg = 1 then .mixed else .test
        let ing : IngressMode := if wing = 0 then .forward else if wing = 1 then .check else .tap
        let moved := fun r : Stream =>
          if r.config.egressLane = l ∧ n.egress ≠ .client ∧ eg = .client ∧ r.gen.state = .running then
            { r with gen := { r.gen with state := .held, due := false } }
          else if r.config.egressLane = l ∧ n.egress = .client ∧ eg ≠ .client ∧ r.gen.state = .held then
            { r with gen := { r.gen with state := .running } }
          else r
        exec .setLane s = .next (
          if 15 < w.toNat then s.refuses f rest .outOfRange
          else if s.present l = false then s.refuses f rest .noLane
          else if 2 < weg.toNat ∨ 2 < wing.toNat then s.refuses f rest .outOfRange
          else
            (((s.dequeue rest).mapStreams moved).setLane l
              (if n.egress ≠ .test ∧ eg = .test then
                { n with
                  egress := eg
                  ingress := ing
                  egressBuf := []
                  counters := { n.counters with displaced := satAdd n.counters.displaced n.egressBuf.length } }
              else { n with egress := eg, ingress := ing })).replied f (.good [])))
      ∧ (f.args.length ≠ 3 → exec .setLane s = .next (s.refuses f rest .badLength)))
    ∧ ∀ (s : State) (f : ControlFrame) (rest : List ControlFrame), Executing s 0x29 f rest →
      (∀ w clear, f.args = [w, clear] →
        let l := index 16 w
        let n := s.lane l
        let c := n.counters
        exec .readLane s = .next (
          if 15 < w.toNat then s.refuses f rest .outOfRange
          else if s.present l = false then s.refuses f rest .noLane
          else if 1 < clear.toNat then s.refuses f rest .outOfRange
          else
            ((if clear = 1 then (s.dequeue rest).setLane l { n with counters := .zero } else s.dequeue rest)).replied f
              (.good
                [(match n.egress with | .client => 0 | .mixed => 1 | .test => 2),
                  (match n.ingress with | .forward => 0 | .check => 1 | .tap => 2), Word.ofNat n.egressBuf.length,
                  Word.ofNat n.ingressBuf.length, Word.ofNat n.lastServed.val, c.passed, c.dropped, c.displaced,
                  c.testSent, c.forwarded, c.lineDropped, c.headerErrors, c.foreign, c.stray, c.delivered])))
      ∧ (f.args.length ≠ 2 → exec .readLane s = .next (s.refuses f rest .badLength))

/-! ## Commands of the Pattern Store -/

/-- LOAD_WORDS (R70) and READ_SEGMENT (R71). The words land at the segment's fill point, and no other word of the store
changes. -/
def Obligations.LoadWordsAndReadSegment : Prop :=
  (∀ (s : State) (f : ControlFrame) (rest : List ControlFrame), Executing s 0x30 f rest →
      (∀ w data, f.args = w :: data → 1 ≤ data.length → data.length ≤ 64 →
        let g := index 64 w
        let x := s.store.seg g
        let fill := x.fill + data.length
        exec .loadWords s = .next (
          if 63 < w.toNat then s.refuses f rest .outOfRange
          else if s.store.mode = .wiping then s.refuses f rest .storeBusy
          else if x.state = .clearQueued ∨ x.state = .clearing then s.refuses f rest .segmentBusy
          else if x.state = .faulted then s.refuses f rest .faulted
          else if 256 < fill then s.refuses f rest .segmentFull
          else
            (State.replied
              { s.dequeue rest with
                store :=
                  { s.store with
                    segs := s.store.segs.set g { state := if fill < 256 then .partly else .full, fill := fill }
                    mem := s.store.mem.writeAll (256 * g.val + x.fill) data } }
              f (.good [Word.ofNat fill]))))
      ∧ (f.args.length < 2 ∨ 65 < f.args.length → exec .loadWords s = .next (s.refuses f rest .badLength)))
    ∧ (∀ (m : Memory) (a : Nat) (data : List Word), m.wf = true → a + data.length ≤ 16384 →
        ∀ b, (m.writeAll a data).read b = if a ≤ b ∧ b < a + data.length then data.getD (b - a) 0 else m.read b)
    ∧ ∀ (s : State) (f : ControlFrame) (rest : List ControlFrame), Executing s 0x31 f rest →
      (∀ w off count, f.args = [w, off, count] →
        let g := index 64 w
        let x := s.store.seg g
        exec .readSegment s = .next (
          if 63 < w.toNat ∨ 255 < off.toNat ∨ count.toNat < 1 ∨ 64 < count.toNat then s.refuses f rest .outOfRange
          else if x.state = .clearQueued ∨ x.state = .clearing then s.refuses f rest .segmentBusy
          else if x.state = .faulted then (s.dequeue rest).replied f (.good [5, 0])
          else if x.state = .blank ∧ off = 0 then (s.dequeue rest).replied f (.good [0, 0])
          else if off.toNat < x.fill then
            (s.dequeue rest).replied f (.good <|
              [if x.state = .blank then 0 else if x.state = .partly then 1 else 2, Word.ofNat x.fill]
                ++ (List.range (min count.toNat (x.fill - off.toNat))).map
                    (fun k => s.store.mem.read (256 * g.val + off.toNat + k)))
          else s.refuses f rest .outOfRange))
      ∧ (f.args.length ≠ 3 → exec .readSegment s = .next (s.refuses f rest .badLength))

/-- CLEAR_SEGMENT (R72, R73) and WIPE_STORE (R76). `overlies` says that READY pattern p's span holds the segment. -/
def Obligations.ClearSegmentAndWipeStore : Prop :=
  (∀ (s : State) (f : ControlFrame) (rest : List ControlFrame), Executing s 0x32 f rest →
      (∀ w, f.args = [w] →
        let g := index 64 w
        let x := s.store.seg g
        let overlies := fun e : Pattern =>
          e.ready = true ∧ e.first.val ≤ g.val ∧ g.val < e.first.val + (e.len + 255) / 256
        exec .clearSegment s = .next (
          if 63 < w.toNat then s.refuses f rest .outOfRange
          else if s.store.mode = .wiping then s.refuses f rest .storeBusy
          else if x.state = .clearQueued ∨ x.state = .clearing then s.refuses f rest .alreadyClearing
          else if ∃ p, overlies (s.store.pattern p) ∧ (s.store.pattern p).frozen = true then s.refuses f rest .frozen
          else if ∃ p, overlies (s.store.pattern p) ∧ 0 < (s.store.pattern p).uses then s.refuses f rest .pinned
          else if s.store.clearing ≠ none ∧ 4 ≤ s.store.clearQueue.length then s.refuses f rest .queueFull
          else
            (State.replied
              { s.dequeue rest with
                store :=
                  { s.store with
                    segs := s.store.segs.set g
                      { state := if s.store.clearing = none then .clearing else .clearQueued, fill := 0 }
                    clearing := if s.store.clearing = none then some g else s.store.clearing
                    clearQueue := if s.store.clearing = none then s.store.clearQueue else s.store.clearQueue ++ [g]
                    patterns := tableMap (fun e => if overlies e then { e with ready := false } else e) s.store.patterns } }
              f (.begun [patternMask s.store (fun e => decide (overlies e))]))))
      ∧ (f.args.length ≠ 1 → exec .clearSegment s = .next (s.refuses f rest .badLength)))
    ∧ (∀ (s : State) (f : ControlFrame) (rest : List ControlFrame), Executing s 0x33 f rest →
      (f.args = [] →
        exec .wipeStore s = .next (
          if s.store.mode = .wiping then s.refuses f rest .storeBusy
          else if ∃ p, 0 < (s.store.pattern p).uses then s.refuses f rest .pinned
          else
            (State.replied
              { s.dequeue rest with
                store :=
                  { segs := Vector.replicate 64 { state := .clearing, fill := 0 }
                    mem := s.store.mem
                    mode := .wiping
                    clearing := none
                    clearQueue := []
                    patterns := tableMap (fun e => { e with ready := false, frozen := false }) s.store.patterns } }
              f (.begun [patternMask s.store (fun e => e.ready)]))))
      ∧ (f.args ≠ [] → exec .wipeStore s = .next (s.refuses f rest .badLength)))
    ∧ ∀ (st : Store) (q : Pattern → Bool) (p : Nat),
        (patternMask st q).getLsbD p = if h : p < 32 then q (st.pattern ⟨p, h⟩) else false

/-- DEFINE_PATTERN (R79), UNDEFINE_PATTERN (R80), FREEZE_PATTERN (R81) and READ_PATTERN (R82). -/
def Obligations.PatternTableCommands : Prop :=
  (∀ (s : State) (f : ControlFrame) (rest : List ControlFrame), Executing s 0x34 f rest →
      (∀ wp wf wl, f.args = [wp, wf, wl] →
        let p := index 32 wp
        let e := s.store.pattern p
        let span := (wl.toNat + 255) / 256
        let valid := wf.toNat + span ≤ 64
          ∧ (∀ g : Fin 64, wf.toNat ≤ g.val → g.val + 1 < wf.toNat + span → (s.store.seg g).state = .full)
          ∧ (∀ g : Fin 64, g.val + 1 = wf.toNat + span →
              ((s.store.seg g).state = .partly ∨ (s.store.seg g).state = .full)
                ∧ wl.toNat - 256 * (span - 1) ≤ (s.store.seg g).fill)
        exec .definePattern s = .next (
          if 31 < wp.toNat ∨ 63 < wf.toNat ∨ wl.toNat < 1 ∨ 16384 < wl.toNat then s.refuses f rest .outOfRange
          else if e.frozen = true then s.refuses f rest .frozen
          else if e.uses ≠ 0 then s.refuses f rest .pinned
          else if s.store.mode = .wiping then s.refuses f rest .storeBusy
          else if ¬ valid then s.refuses f rest .spanInvalid
          else
            ((s.dequeue rest).setStore (s.store.setPattern p
              { e with ready := true, first := index 64 wf, len := wl.toNat })).replied f (.good [])))
      ∧ (f.args.length ≠ 3 → exec .definePattern s = .next (s.refuses f rest .badLength)))
    ∧ (∀ (s : State) (f : ControlFrame) (rest : List ControlFrame), Executing s 0x35 f rest →
      (∀ wp, f.args = [wp] →
        let p := index 32 wp
        let e := s.store.pattern p
        exec .undefinePattern s = .next (
          if 31 < wp.toNat then s.refuses f rest .outOfRange
          else if e.frozen = true then s.refuses f rest .frozen
          else if e.uses ≠ 0 then s.refuses f rest .pinned
          else ((s.dequeue rest).setStore (s.store.setPattern p { e with ready := false })).replied f (.good [])))
      ∧ (f.args.length ≠ 1 → exec .undefinePattern s = .next (s.refuses f rest .badLength)))
    ∧ (∀ (s : State) (f : ControlFrame) (rest : List ControlFrame), Executing s 0x36 f rest →
      (∀ wp, f.args = [wp] →
        let p := index 32 wp
        let e := s.store.pattern p
        exec .freezePattern s = .next (
          if 31 < wp.toNat then s.refuses f rest .outOfRange
          else if e.ready = false then s.refuses f rest .notReady
          else ((s.dequeue rest).setStore (s.store.setPattern p { e with frozen := true })).replied f (.good [])))
      ∧ (f.args.length ≠ 1 → exec .freezePattern s = .next (s.refuses f rest .badLength)))
    ∧ ∀ (s : State) (f : ControlFrame) (rest : List ControlFrame), Executing s 0x37 f rest →
      (∀ wp, f.args = [wp] →
        let e := s.store.pattern (index 32 wp)
        exec .readPattern s = .next (
          if 31 < wp.toNat then s.refuses f rest .outOfRange
          else
            (s.dequeue rest).replied f (.good
              [if e.ready then 1 else 0, Word.ofNat e.first.val, Word.ofNat e.len, Word.ofNat ((e.len + 255) / 256),
                if e.frozen then 1 else 0, Word.ofNat e.uses])))
      ∧ (f.args.length ≠ 1 → exec .readPattern s = .next (s.refuses f rest .badLength))

/-! ## Commands of the gates -/

/-- SET_GATE (R135), START_GATE (R136) and READ_GATE (R143). -/
def Obligations.SetStartAndReadGate : Prop :=
  (∀ (s : State) (f : ControlFrame) (rest : List ControlFrame), Executing s 0x40 f rest →
      (∀ wg wsrc wlen wmode wqual wmarks, f.args = [wg, wsrc, wlen, wmode, wqual, wmarks] →
        let g := index 4 wg
        let x := s.gate g
        let src : GateSource :=
          if wsrc = 0 then .t1ms else if wsrc = 1 then .t10ms else if wsrc = 2 then .t100ms else if wsrc = 3 then .t1s
          else if wsrc = 4 then .syncIn else .chain
        let m : GateMode := if wmode = 0 then .single else .repeated
        let q : Qualifier := if wqual = 0 then .nextCount else .syncEdge
        let marks := decide (wmarks = 1)
        exec .setGate s = .next (
          if 3 < wg.toNat then s.refuses f rest .outOfRange
          else if 5 < wsrc.toNat ∨ wlen.toNat < 1 ∨ 65535 < wlen.toNat ∨ 1 < wmode.toNat ∨ 1 < wqual.toNat
              ∨ 1 < wmarks.toNat then s.refuses f rest .outOfRange
          else if src = .chain ∧ g ≠ 1 ∧ g ≠ 3 then s.refuses f rest .outOfRange
          else if x.state = .idle then
            ((s.dequeue rest).setGate g
              { x with
                source := src, length := wlen.toNat, mode := m, qualifier := q, marks := marks, count := 0
                pendingLength := none }).replied f (.good [0, 0])
          else if x.source ≠ src ∨ x.mode ≠ m ∨ x.qualifier ≠ q ∨ x.marks ≠ marks then s.refuses f rest .gateState
          else
            ((s.dequeue rest).setGate g
              { x with pendingLength := if wlen.toNat = x.length then none else some wlen.toNat }).replied f
              (.good [if x.state = .armed then 1 else 2, if wlen.toNat = x.length then 0 else wlen])))
      ∧ (f.args.length ≠ 6 → exec .setGate s = .next (s.refuses f rest .badLength)))
    ∧ (∀ (s : State) (f : ControlFrame) (rest : List ControlFrame), Executing s 0x41 f rest →
      (∀ wg, f.args = [wg] →
        let g := index 4 wg
        let x := s.gate g
        exec .startGate s = .next (
          if 3 < wg.toNat then s.refuses f rest .outOfRange
          else if x.state ≠ .idle then s.refuses f rest .gateState
          else ((s.dequeue rest).setGate g { x with state := .armed, number := 0, count := 0 }).replied f (.good [])))
      ∧ (f.args.length ≠ 1 → exec .startGate s = .next (s.refuses f rest .badLength)))
    ∧ ∀ (s : State) (f : ControlFrame) (rest : List ControlFrame), Executing s 0x43 f rest →
      (∀ wg, f.args = [wg] →
        let g := index 4 wg
        let x := s.gate g
        exec .readGate s = .next (
          if 3 < wg.toNat then s.refuses f rest .outOfRange
          else
            (s.dequeue rest).replied f (.good
              [(match x.state with | .idle => 0 | .armed => 1 | .opened => 2),
                (match x.source with | .t1ms => 0 | .t10ms => 1 | .t100ms => 2 | .t1s => 3 | .syncIn => 4 | .chain => 5),
                Word.ofNat x.length, if x.pendingLength = none then 0 else 1, Word.ofNat (x.pendingLength.getD 0),
                Word.ofNat x.count, (match x.mode with | .single => 0 | .repeated => 1),
                (match x.qualifier with | .nextCount => 0 | .syncEdge => 1), if x.marks then 1 else 0, x.number,
                Word.ofNat ((indexes 256).countP
                  (fun i => decide ((s.stream i).config.gate = g ∧ (s.stream i).chk.sync ≠ .off)))])))
      ∧ (f.args.length ≠ 1 → exec .readGate s = .next (s.refuses f rest .badLength))

/-- STOP_GATE (R142): a partial end of an OPEN gate, and nothing but the state of an ARMED one. -/
def Obligations.StopGate : Prop :=
  ∀ (s : State) (f : ControlFrame) (rest : List ControlFrame), Executing s 0x42 f rest →
    (∀ wg, f.args = [wg] →
      let g := index 4 wg
      (3 < wg.toNat → exec .stopGate s = .next (s.refuses f rest .outOfRange))
        ∧ (wg.toNat ≤ 3 → (s.gate g).state = .idle →
            exec .stopGate s = .next ((s.dequeue rest).replied f (.good [0])))
        ∧ (wg.toNat ≤ 3 → (s.gate g).state = .armed →
            exec .stopGate s =
              .next (((s.dequeue rest).setGate g { s.gate g with state := .idle, pendingLength := none }).replied f
                (.good [1])))
        ∧ (wg.toNat ≤ 3 → (s.gate g).state = .opened →
            exec .stopGate s = .next ((intervalEnd g true s.pulses (s.dequeue rest)).replied f (.good [2]))
              ∧ ((intervalEnd g true s.pulses (s.dequeue rest)).gate g).state = .idle
              ∧ ((intervalEnd g true s.pulses (s.dequeue rest)).gate g).number = (s.gate g).number + 1))
    ∧ (f.args.length ≠ 1 → exec .stopGate s = .next (s.refuses f rest .badLength))

/-! ## Commands of the ring and the Event Unit -/

/-- FETCH_RESULTS (R151), RELEASE_RESULTS (R152), SET_RING (R153) and READ_RING (R154). -/
def Obligations.RingCommands : Prop :=
  (∀ (s : State) (f : ControlFrame) (rest : List ControlFrame), Executing s 0x48 f rest →
      (∀ k, f.args = [k] →
        let m := min k.toNat s.ring.records.length
        exec .fetchResults s = .next (
          if k.toNat < 1 ∨ 8 < k.toNat then s.refuses f rest .outOfRange
          else
            (s.dequeue rest).replied f (.good
              ([Word.ofNat m, Word.ofNat s.ring.records.length] ++ (s.ring.records.take m).flatMap recordWords))))
      ∧ (f.args.length ≠ 1 → exec .fetchResults s = .next (s.refuses f rest .badLength)))
    ∧ (∀ r : Record, (recordWords r).length = 16
        ∧ recordWords r =
          [ (BitVec.ofNat 8 r.stream.val ++ BitVec.ofNat 2 r.gate.val ++ BitVec.ofNat 3 r.endState.code ++ 0#15
              ++ BitVec.ofBool r.partialEnd ++ BitVec.ofBool r.lateStart ++ BitVec.ofBool r.unlockedSeen
              ++ BitVec.ofBool r.staleSeen : BitVec 32),
            r.number, (r.counts.bits >>> 32).setWidth 32, r.counts.bits.setWidth 32,
            (r.counts.errs >>> 32).setWidth 32, r.counts.errs.setWidth 32, r.counts.received, r.counts.compared,
            r.counts.errored, r.counts.bad, r.counts.lost, r.counts.late, r.counts.mismatches ++ r.counts.resyncs,
            r.counts.erroredTicks ++ r.counts.severeTicks, r.counts.unavailTicks ++ r.counts.bursts, r.counts.longest ])
    ∧ (∀ (s : State) (f : ControlFrame) (rest : List ControlFrame), Executing s 0x49 f rest →
      (∀ k, f.args = [k] →
        exec .releaseResults s = .next (
          if k.toNat < 1 ∨ 1024 < k.toNat then s.refuses f rest .outOfRange
          else if s.ring.records.length < k.toNat then s.refuses f rest .ringShort
          else
            (State.replied { s.dequeue rest with ring := { s.ring with records := s.ring.records.drop k.toNat } }
              f (.good [Word.ofNat (s.ring.records.length - k.toNat)]))))
      ∧ (f.args.length ≠ 1 → exec .releaseResults s = .next (s.refuses f rest .badLength)))
    ∧ (∀ (s : State) (f : ControlFrame) (rest : List ControlFrame), Executing s 0x4A f rest →
      (∀ m, f.args = [m] →
        exec .setRing s = .next (
          if m.toNat < 1 ∨ 1024 < m.toNat then s.refuses f rest .outOfRange
          else (State.replied { s.dequeue rest with ring := { s.ring with highWater := m.toNat } } f (.good [m]))))
      ∧ (f.args.length ≠ 1 → exec .setRing s = .next (s.refuses f rest .badLength)))
    ∧ ∀ (s : State) (f : ControlFrame) (rest : List ControlFrame), Executing s 0x4B f rest →
      (f.args = [] →
        exec .readRing s =
          .next ((s.dequeue rest).replied f (.good
            [Word.ofNat s.ring.records.length, s.ring.appended, s.ring.lost, Word.ofNat s.ring.highWater])))
      ∧ (f.args ≠ [] → exec .readRing s = .next (s.refuses f rest .badLength))

/-- READ_EVENTS (R161), ACK_EVENTS (R162) and SET_EVENT_POLICY (R163), with the kinds' codes (R156) and a policy of its own for
each kind (R157). -/
def Obligations.EventCommands : Prop :=
  [Kind.stream .lockGained, .stream .lockLost, .stream .stale, .stream .paceSlip, .stream .severeTick, .device .ringHigh,
      .device .ringLoss, .device .clearDone, .device .wipeDone, .device .cmdOverrun, .device .bufferDrop,
      .device .gateEnd].map Kind.code = [1, 2, 3, 4, 5, 8, 9, 10, 11, 12, 13, 14]
  ∧ (∀ (s : State) (k : Kind), s.policy k = s.events.policies[k.index])
  ∧ (∀ k l : Kind, k.index = l.index → k = l)
  ∧ (∀ (s : State) (f : ControlFrame) (rest : List ControlFrame), Executing s 0x50 f rest →
      (f.args = [] →
        exec .readEvents s =
          .next ((s.dequeue rest).replied f (.good
            ([s.events.device.setWidth 32, s.events.drops, Word.ofNat s.events.listed.length]
              ++ (s.events.listed.take 32).flatMap
                  (fun i => [Word.ofNat i.val, (s.stream i).events.setWidth 32])))))
      ∧ (f.args ≠ [] → exec .readEvents s = .next (s.refuses f rest .badLength)))
    ∧ (∀ (s : State) (f : ControlFrame) (rest : List ControlFrame), Executing s 0x51 f rest →
      (∀ scope mask, f.args = [scope, mask] →
        let i := index 256 scope
        let mine := (s.stream i).events &&& ~~~(mask.setWidth 16)
        let device := s.events.device &&& ~~~(mask.setWidth 16)
        exec .ackEvents s = .next (
          if scope = 0xFFFF then
            if mask &&& ~~~(0x7F00 : Word) ≠ 0 then s.refuses f rest .outOfRange
            else
              (State.replied { s.dequeue rest with events := { s.events with device := device } }
                f (.good [device.setWidth 32]))
          else if 255 < scope.toNat ∨ mask &&& ~~~(0x3E : Word) ≠ 0 then s.refuses f rest .outOfRange
          else
            (State.replied
              { (s.dequeue rest).setStream i { s.stream i with events := mine } with
                events :=
                  { s.events with
                    listed := if mine = 0 then s.events.listed.filter (· != i) else s.events.listed } }
              f (.good [mine.setWidth 32]))))
      ∧ (f.args.length ≠ 2 → exec .ackEvents s = .next (s.refuses f rest .badLength)))
    ∧ ∀ (s : State) (f : ControlFrame) (rest : List ControlFrame), Executing s 0x52 f rest →
      (∀ wk wp, f.args = [wk, wp] →
        ((∀ k : Kind, k.code ≠ wk.toNat) ∨ 2 < wp.toNat →
          exec .setEventPolicy s = .next (s.refuses f rest .outOfRange))
        ∧ ∀ k : Kind, k.code = wk.toNat → wp.toNat ≤ 2 →
          let new : Policy := if wp = 0 then .disabled else if wp = 1 then .low else .high
          let stored := { s.events with policies := s.events.policies.set k.index new }
          let clean := fun r : Stream => { r with events := r.events &&& ~~~((1 : BitVec 16) <<< k.code) }
          let before : Word := match s.policy k with | .disabled => 0 | .low => 1 | .high => 2
          exec .setEventPolicy s = .next (State.replied
            (if wp ≠ 0 then { s.dequeue rest with events := stored }
            else
              match k with
              | .device _ =>
                { s.dequeue rest with
                  events := { stored with device := s.events.device &&& ~~~((1 : BitVec 16) <<< k.code) } }
              | .stream _ =>
                { (s.dequeue rest).mapStreams clean with
                  events :=
                    { stored with
                      listed := s.events.listed.filter (fun i => (clean (s.stream i)).events != 0) } })
            f (.good [before])))
      ∧ (f.args.length ≠ 2 → exec .setEventPolicy s = .next (s.refuses f rest .badLength))

/-- The codes of the kinds (R156) and of the statuses (R166), raises (R158), notices (R31, R159) and replies (R30, R167,
R168). -/
def Obligations.RaisesNoticesAndReplies : Prop :=
  [StreamKind.lockGained, .lockLost, .stale, .paceSlip, .severeTick].map StreamKind.code = [1, 2, 3, 4, 5]
  ∧ [DeviceKind.ringHigh, .ringLoss, .clearDone, .wipeDone, .cmdOverrun, .bufferDrop, .gateEnd].map DeviceKind.code =
      [8, 9, 10, 11, 12, 13, 14]
  ∧ [Status.ok, .started, .unknownCommand, .badLength, .outOfRange, .noLane, .notConfigured, .active, .notActive,
      .outOfWindow, .windowInUse, .notReady].map Status.code = [0, 1, 2, 3, 4, 5, 6, 7, 8, 9, 10, 11]
  ∧ [Status.spanInvalid, .pinned, .frozen, .segmentBusy, .segmentFull, .alreadyClearing, .queueFull, .storeBusy,
      .injectPending, .gateState, .ringShort, .faulted].map Status.code = [12, 13, 14, 15, 16, 17, 18, 19, 20, 21, 22, 23]
  ∧ (∀ ws, Answer.good ws = ⟨.ok, ws⟩ ∧ Answer.begun ws = ⟨.started, ws⟩) ∧ (∀ st, Answer.fail st = ⟨st, []⟩)
  ∧ (∀ (s : State) (code : Nat) (scope : BitVec 16) (d1 d2 : Word),
      s.notify code scope d1 d2 =
        if s.agent.outbound.length < 6 then
          { s with agent := { s.agent with outbound := s.agent.outbound ++
            [{ notice := true
               bytes := buildFrame 4 s.addr 0 0 0
                [(BitVec.ofNat 8 code ++ 0#8 ++ scope : BitVec 32), d1, d2] }] } }
        else { s with events := { s.events with drops := satAdd s.events.drops 1 } })
    ∧ (∀ (s : State) (k : DeviceKind) (d1 d2 : Word),
        let added := { s with events := { s.events with device := s.events.device ||| ((1 : BitVec 16) <<< k.code) } }
        s.raiseDevice k d1 d2 =
          if s.policy (.device k) = .disabled ∨ s.events.device.getLsbD k.code = true then s
          else if s.policy (.device k) = .high then added.notify k.code 0xFFFF d1 d2
          else added)
    ∧ (∀ (s : State) (i : Fin 256) (k : StreamKind),
        let r := s.stream i
        let added :=
          { s.setStream i { r with events := r.events ||| ((1 : BitVec 16) <<< k.code) } with
            events :=
              { s.events with listed := if r.events = 0 then s.events.listed ++ [i] else s.events.listed } }
        s.raiseStream i k =
          if s.policy (.stream k) = .disabled ∨ r.events.getLsbD k.code = true then s
          else if s.policy (.stream k) = .high then added.notify k.code (BitVec.ofNat 16 i.val) 0 0
          else added)
    ∧ ∀ (s : State) (f : ControlFrame) (echo : Byte) (a : Answer),
        let reply : Frame :=
          buildFrame 3 s.addr f.bytes.tag 0 0
            ((echo ++ BitVec.ofNat 8 a.status.code ++ BitVec.ofNat 16 a.words.length : BitVec 32) :: a.words)
        s.answer f echo a =
          if f.broadcast then s
          else if s.agent.outbound.length < 8 then
            { s with agent := { s.agent with outbound := s.agent.outbound ++ [{ notice := false, bytes := reply }] } }
          else { s with agent := { s.agent with waiting := some { notice := false, bytes := reply } } }

/-! ## Invariants: what every step keeps -/

/-- Every law holds of the part after reset. -/
def Obligations.LawsHoldAfterReset : Prop :=
  QueueLaw State.reset ∧ PendingLaw State.reset ∧ CounterLaw State.reset ∧ GateLaw State.reset ∧ WindowLaw State.reset
    ∧ GeneratorLaw State.reset ∧ CheckerLaw State.reset ∧ StoreLaw State.reset ∧ UseLaw State.reset
    ∧ PresenceLaw State.reset

/-- R46, R147, R165, R167, R168 -/
def Obligations.EveryStepKeepsQueueBounds : Prop := ∀ s t : State, QueueLaw s → step s = .next t → QueueLaw t

/-- R156, R158 -/
def Obligations.EveryStepKeepsPendingListLaw : Prop := ∀ s t : State, PendingLaw s → step s = .next t → PendingLaw t

/-- R16, R32 -/
def Obligations.EveryStepKeepsCounterInequalities : Prop := ∀ s t : State, CounterLaw s → step s = .next t → CounterLaw t

/-- R132 -/
def Obligations.EveryStepKeepsGateLaw : Prop := ∀ s t : State, GateLaw s → step s = .next t → GateLaw t

/-- R33, R35 -/
def Obligations.EveryStepKeepsWindowLaw : Prop := ∀ s t : State, WindowLaw s → step s = .next t → WindowLaw t

/-- R51, R86, R89, R90 -/
def Obligations.EveryStepKeepsGeneratorLaw : Prop := ∀ s t : State, GeneratorLaw s → step s = .next t → GeneratorLaw t

/-- R11, R105, R107, R123, R126 -/
def Obligations.EveryStepKeepsCheckerLaw : Prop := ∀ s t : State, CheckerLaw s → step s = .next t → CheckerLaw t

/-- R60, R68, R69, R72, R76, R78; that the word list keeps its canonical form is about the model's own form (log 7). -/
def Obligations.EveryStepKeepsStoreLaw : Prop := ∀ s t : State, StoreLaw s → step s = .next t → StoreLaw t

/-- R83 -/
def Obligations.EveryStepKeepsUseCounts : Prop := ∀ s t : State, UseLaw s → step s = .next t → UseLaw t

/-- R3, R5, R7, R8, R38, R172 -/
def Obligations.EveryStepKeepsPresenceLaw : Prop := ∀ s t : State, PresenceLaw s → step s = .next t → PresenceLaw t
end

