-- ==== Sys2Proof/Laws/Counters.lean ====
section
/-! SUPPORT. The laws of saturating counters (R16) and of event sets (R156). -/

namespace Sys2Proof.Machine

/-- A counter advances by `d` or stops at the largest value of its width. -/
theorem satAdd_toNat {w : Nat} (c : BitVec w) (d : Nat) : (satAdd c d).toNat = min (c.toNat + d) (2 ^ w - 1) := by
  have : 0 < 2 ^ w := Nat.two_pow_pos w
  simp only [satAdd, BitVec.toNat_ofNat]
  exact Nat.mod_eq_of_lt (by omega)

@[simp] theorem satAdd_zero {w : Nat} (c : BitVec w) : satAdd c 0 = c := by
  apply BitVec.eq_of_toNat_eq
  have := c.isLt
  rw [satAdd_toNat]
  omega

/-- Saturation keeps the order of two counters of one width when the smaller advances by no more. -/
theorem satAdd_le_satAdd {w : Nat} {a b : BitVec w} {d e : Nat} (h : a ≤ b) (hd : d ≤ e) : satAdd a d ≤ satAdd b e := by
  rw [BitVec.le_def] at *
  rw [satAdd_toNat, satAdd_toNat]
  omega

theorem le_satAdd {w : Nat} (c : BitVec w) (d : Nat) : c ≤ satAdd c d := by
  rw [BitVec.le_def, satAdd_toNat]
  have := c.isLt
  omega

/-- A kind inserted is in the set, and every other kind is in it as before. -/
theorem KindSet.has_insert (set : KindSet) (c d : Nat) (hd : d < 16) :
    (set.insert c).has d = (set.has d || decide (c = d)) := by
  simp only [KindSet.has, KindSet.insert, kindBit, BitVec.getLsbD_or, BitVec.getLsbD_shiftLeft, BitVec.getLsbD_one]
  by_cases h : c = d
  · subst h; simp [hd]
  · have : ¬ (c ≤ d ∧ d - c = 0) := by omega
    simp only [hd, decide_true, Bool.true_and, h, decide_false, Bool.or_false]
    cases set.getLsbD d <;> simp <;> omega

end Sys2Proof.Machine
end

