-- ==== Sys2Proof/Laws/Checker.lean ====
section
/-! SUPPORT. What the checker's operations do: when a frame mismatches or slips, what a burst's close and a verification
leave, and the words of a complete body. -/

namespace Sys2Proof.Machine

/-! ## What a frame is judged by -/

theorem offsetOutside_iff (st : Store) (kind : PatternKind) (offset : Word) :
    offsetOutside st kind offset = true ↔ ∃ p, kind = .user p ∧ (st.patterns[p]).len ≤ offset.toNat := by
  unfold offsetOutside
  cases kind with
  | prbs p => simp
  | fixed w => simp
  | user p =>
    rw [decide_eq_true_iff]
    exact ⟨fun h => ⟨p, rfl, h⟩, fun ⟨q, hq, h⟩ => by cases hq; exact h⟩

/-- A length mismatch is an incomplete body, another length, or a USER offset outside the pattern (R110). -/
theorem lengthMismatch_iff (cfg : StreamConfig) (st : Store) (f : Frame) :
    lengthMismatch cfg st f = true ↔
      ¬ (4 * f.lengthField ≤ f.body.length ∧ f.lengthField = cfg.payloadLen)
        ∨ ∃ p, cfg.kind = .user p ∧ (st.patterns[p]).len ≤ f.offset.toNat := by
  rw [lengthMismatch, Bool.or_eq_true, Bool.or_eq_true, offsetOutside_iff, Frame.short, decide_eq_true_iff, bne_iff_ne]
  refine or_congr ?_ Iff.rfl
  omega

theorem offsetOnlyMismatch_iff (cfg : StreamConfig) (st : Store) (f : Frame) :
    offsetOnlyMismatch cfg st f = true ↔
      (4 * f.lengthField ≤ f.body.length ∧ f.lengthField = cfg.payloadLen)
        ∧ ∃ p, cfg.kind = .user p ∧ (st.patterns[p]).len ≤ f.offset.toNat := by
  rw [offsetOnlyMismatch, Bool.and_eq_true, Bool.and_eq_true, offsetOutside_iff, Frame.short, Bool.not_eq_true',
    decide_eq_false_iff_not, beq_iff_eq]
  refine and_congr ?_ Iff.rfl
  omega

theorem misaligned_iff (cfg : StreamConfig) (f : Frame) (c : Checker) :
    misaligned cfg f c = true ↔ ∃ p, cfg.kind = .user p ∧ f.offset ≠ c.pat := by
  unfold misaligned
  cases cfg.kind <;> simp

theorem badFrame_iff (cfg : StreamConfig) (errs : Nat) : badFrame cfg errs = true ↔ cfg.badThreshold < errs :=
  decide_eq_true_iff

/-! ## What a tally leaves alone -/

@[simp] theorem Checker.tally_sync (c : Checker) (o : Bool) (t : Tally) : (c.tally o t).sync = c.sync := rfl
@[simp] theorem Checker.tally_expected (c : Checker) (o : Bool) (t : Tally) : (c.tally o t).expected = c.expected := rfl
@[simp] theorem Checker.tally_pat (c : Checker) (o : Bool) (t : Tally) : (c.tally o t).pat = c.pat := rfl
@[simp] theorem Checker.tally_progress (c : Checker) (o : Bool) (t : Tally) : (c.tally o t).progress = c.progress := rfl
@[simp] theorem Checker.tally_badRun (c : Checker) (o : Bool) (t : Tally) : (c.tally o t).badRun = c.badRun := rfl
@[simp] theorem Checker.tally_silence (c : Checker) (o : Bool) (t : Tally) : (c.tally o t).silence = c.silence := rfl
@[simp] theorem Checker.tally_openBurst (c : Checker) (o : Bool) (t : Tally) : (c.tally o t).openBurst = c.openBurst := rfl
@[simp] theorem Checker.tally_tickErrors (c : Checker) (o : Bool) (t : Tally) : (c.tally o t).tickErrors = c.tickErrors := rfl
@[simp] theorem Checker.tally_tickUnlocked (c : Checker) (o : Bool) (t : Tally) : (c.tally o t).tickUnlocked = c.tickUnlocked := rfl
@[simp] theorem Checker.tally_lateStart (c : Checker) (o : Bool) (t : Tally) : (c.tally o t).lateStart = c.lateStart := rfl
@[simp] theorem Checker.tally_unlockedSeen (c : Checker) (o : Bool) (t : Tally) : (c.tally o t).unlockedSeen = c.unlockedSeen := rfl
@[simp] theorem Checker.tally_staleSeen (c : Checker) (o : Bool) (t : Tally) : (c.tally o t).staleSeen = c.staleSeen := rfl
@[simp] theorem Checker.tally_cum (c : Checker) (o : Bool) (t : Tally) : (c.tally o t).cum = c.cum.add t := rfl
@[simp] theorem Checker.tally_ivl (c : Checker) (o : Bool) (t : Tally) :
    (c.tally o t).ivl = if o then c.ivl.add t else c.ivl := rfl

/-! ## Verification and bursts -/

theorem Checker.verified_of_le {c : Checker} {cfg : StreamConfig} (h : cfg.verifyCount ≤ c.progress + 1) :
    c.verified cfg = ({ c with progress := c.progress + 1, sync := .locked, badRun := 0 }, [.lockGained]) :=
  if_pos h

theorem Checker.verified_of_lt {c : Checker} {cfg : StreamConfig} (h : c.progress + 1 < cfg.verifyCount) :
    c.verified cfg = ({ c with progress := c.progress + 1 }, []) :=
  if_neg (Nat.not_le_of_lt h)

/-- A frame compared under the VERIFY rules, bad or good (R115). -/
theorem verifyCompare_of_bad {cfg : StreamConfig} {st : Store} {o : Bool} {f : Frame} {c : Checker}
    (h : cfg.badThreshold < (compareWords st cfg.kind cfg.invert f.words c.pat).1.sum) :
    verifyCompare cfg st o f c =
      ((Checker.tally
        { c with
          pat := (compareWords st cfg.kind cfg.invert f.words c.pat).2
          expected := f.sequence + 1 } o { resyncs := 1 }).enterHunt, []) :=
  if_pos ((badFrame_iff _ _).mpr h)

theorem verifyCompare_of_good {cfg : StreamConfig} {st : Store} {o : Bool} {f : Frame} {c : Checker}
    (h : (compareWords st cfg.kind cfg.invert f.words c.pat).1.sum ≤ cfg.badThreshold) :
    verifyCompare cfg st o f c =
      Checker.verified
        { c with
          pat := (compareWords st cfg.kind cfg.invert f.words c.pat).2
          expected := f.sequence + 1 } cfg :=
  if_neg (fun hb => Nat.not_lt_of_le h ((badFrame_iff _ _).mp hb))

@[simp] theorem Checker.closeBurst_sync (c : Checker) (o : Bool) : (c.closeBurst o).sync = c.sync := by
  unfold Checker.closeBurst; split <;> rfl
@[simp] theorem Checker.closeBurst_expected (c : Checker) (o : Bool) : (c.closeBurst o).expected = c.expected := by
  unfold Checker.closeBurst; split <;> rfl
@[simp] theorem Checker.closeBurst_pat (c : Checker) (o : Bool) : (c.closeBurst o).pat = c.pat := by
  unfold Checker.closeBurst; split <;> rfl
@[simp] theorem Checker.closeBurst_progress (c : Checker) (o : Bool) : (c.closeBurst o).progress = c.progress := by
  unfold Checker.closeBurst; split <;> rfl
@[simp] theorem Checker.closeBurst_badRun (c : Checker) (o : Bool) : (c.closeBurst o).badRun = c.badRun := by
  unfold Checker.closeBurst; split <;> rfl
@[simp] theorem Checker.closeBurst_silence (c : Checker) (o : Bool) : (c.closeBurst o).silence = c.silence := by
  unfold Checker.closeBurst; split <;> rfl
@[simp] theorem Checker.closeBurst_tickErrors (c : Checker) (o : Bool) : (c.closeBurst o).tickErrors = c.tickErrors := by
  unfold Checker.closeBurst; split <;> rfl
@[simp] theorem Checker.closeBurst_openBurst (c : Checker) (o : Bool) : (c.closeBurst o).openBurst = 0 := by
  unfold Checker.closeBurst; split <;> first | assumption | rfl

/-- The gap part of a frame that follows missing frames (R118); the pattern leaps from where it stood. -/
theorem leapGap_of_ne {cfg : StreamConfig} {st : Store} {o : Bool} {d : Nat} {c : Checker} (h : d ≠ 0) :
    leapGap cfg st o d c =
      { (c.tally o { lost := d }).closeBurst o with pat := leapWords st cfg.kind (d * cfg.payloadLen) c.pat } := by
  simp [leapGap, h, Checker.tally]

/-! ## The words of a body -/

theorem bytesWords_length : ∀ l : List Byte, (bytesWords l).length = l.length / 4
  | [] => by simp [bytesWords]
  | [_] => by simp [bytesWords]
  | [_, _] => by simp [bytesWords]
  | [_, _, _] => by simp [bytesWords]
  | a :: b :: c :: d :: t => by
    have h := bytesWords_length t
    simp only [bytesWords, List.length_cons, h]
    omega

/-- A complete body gives as many words as its length field says (R27). -/
theorem words_length {f : Frame} (h : 4 * f.lengthField ≤ f.body.length) : f.words.length = f.lengthField := by
  rw [Frame.words, bytesWords_length, List.length_take]
  omega

end Sys2Proof.Machine
end

