-- ==== Sys2Proof/Laws/Tables.lean ====
section
/-! SUPPORT. The laws of the table operations and of orders of sites. -/

namespace Sys2Proof.Machine

variable {α : Type} {n : Nat}

@[simp] theorem tableMap_getElem (f : α → α) (v : Vector α n) (i : Nat) (h : i < n) : (tableMap f v)[i] = f v[i] := by
  simp [tableMap]

theorem tableMap_get (f : α → α) (v : Vector α n) (i : Fin n) : (tableMap f v)[i] = f v[i] := by simp

@[simp] theorem tableModify_getElem (v : Vector α n) (i j : Fin n) (f : α → α) :
    (tableModify v i f)[j] = if i = j then f v[i] else v[j] := by
  simp [tableModify, Vector.getElem_set, Fin.ext_iff]

@[simp] theorem mem_indexes (i : Fin n) : i ∈ indexes n := List.mem_finRange i

/-- The indexes found are those of the entries for which `p` holds, in increasing order. -/
theorem tableWhere_eq_filter (p : α → Bool) (v : Vector α n) : tableWhere p v = (indexes n).filter (fun i => p v[i]) := by
  have h : v.toArray.toList = (indexes n).map (fun i => v[i]) := by
    apply List.ext_getElem
    · simp [indexes]
    · intro i h1 h2; simp [indexes]
  have z : ∀ (l : List (Fin n)), (l.zip (l.map (fun i => v[i]))).filterMap (fun e => if p e.2 then some e.1 else none)
      = l.filter (fun i => p v[i]) := by
    intro l
    induction l with
    | nil => rfl
    | cons a t ih =>
      simp only [List.map_cons, List.zip_cons_cons, List.filterMap_cons, List.filter_cons, ih]
      cases p v[a] <;> rfl
  rw [tableWhere, h, z]

@[simp] theorem mem_tableWhere (p : α → Bool) (v : Vector α n) (i : Fin n) : i ∈ tableWhere p v ↔ p v[i] = true := by
  simp [tableWhere_eq_filter]

theorem tableWhere_nodup (p : α → Bool) (v : Vector α n) : (tableWhere p v).Nodup := by
  rw [tableWhere_eq_filter]
  exact (List.nodup_finRange n).filter _

/-- The indexes found stand in increasing order. -/
theorem tableWhere_increasing (p : α → Bool) (v : Vector α n) : (tableWhere p v).Pairwise (· < ·) := by
  rw [tableWhere_eq_filter]
  exact (List.pairwise_lt_finRange n).filter _

/-- An order made whole holds exactly the sites there are. -/
theorem mem_completeOrder [DecidableEq α] (first all : List α) (x : α) : x ∈ completeOrder first all ↔ x ∈ all := by
  simp only [completeOrder, List.mem_append, List.mem_filter, List.mem_eraseDups, decide_eq_true_eq]
  tauto

end Sys2Proof.Machine
end

