-- ==== Sys2Proof/Laws/State.lean ====
section
/-! SUPPORT. Beside State: one lemma per field per update, each true by rfl, and what each table reads after an update. -/

namespace Sys2Proof.Machine

variable (s : State)

/-! ## setStream -/

@[simp] theorem State.setStream_inReset (i : Fin 256) (r : Stream) : (s.setStream i r).inReset = s.inReset := rfl
@[simp] theorem State.setStream_addr (i : Fin 256) (r : Stream) : (s.setStream i r).addr = s.addr := rfl
@[simp] theorem State.setStream_lanesStrap (i : Fin 256) (r : Stream) : (s.setStream i r).lanesStrap = s.lanesStrap := rfl
@[simp] theorem State.setStream_ms (i : Fin 256) (r : Stream) : (s.setStream i r).ms = s.ms := rfl
@[simp] theorem State.setStream_streams (i : Fin 256) (r : Stream) : (s.setStream i r).streams = s.streams.set i r := rfl
@[simp] theorem State.setStream_lanes (i : Fin 256) (r : Stream) : (s.setStream i r).lanes = s.lanes := rfl
@[simp] theorem State.setStream_window (i : Fin 256) (r : Stream) : (s.setStream i r).window = s.window := rfl
@[simp] theorem State.setStream_store (i : Fin 256) (r : Stream) : (s.setStream i r).store = s.store := rfl
@[simp] theorem State.setStream_gates (i : Fin 256) (r : Stream) : (s.setStream i r).gates = s.gates := rfl
@[simp] theorem State.setStream_pulses (i : Fin 256) (r : Stream) : (s.setStream i r).pulses = s.pulses := rfl
@[simp] theorem State.setStream_ring (i : Fin 256) (r : Stream) : (s.setStream i r).ring = s.ring := rfl
@[simp] theorem State.setStream_events (i : Fin 256) (r : Stream) : (s.setStream i r).events = s.events := rfl
@[simp] theorem State.setStream_agent (i : Fin 256) (r : Stream) : (s.setStream i r).agent = s.agent := rfl
@[simp] theorem State.setStream_injected (i : Fin 256) (r : Stream) : (s.setStream i r).injected = s.injected := rfl
@[simp] theorem State.setStream_pending (i : Fin 256) (r : Stream) : (s.setStream i r).pending = s.pending := rfl

/-! ## setGen -/

@[simp] theorem State.setGen_inReset (i : Fin 256) (g : Generator) : (s.setGen i g).inReset = s.inReset := rfl
@[simp] theorem State.setGen_addr (i : Fin 256) (g : Generator) : (s.setGen i g).addr = s.addr := rfl
@[simp] theorem State.setGen_lanesStrap (i : Fin 256) (g : Generator) : (s.setGen i g).lanesStrap = s.lanesStrap := rfl
@[simp] theorem State.setGen_ms (i : Fin 256) (g : Generator) : (s.setGen i g).ms = s.ms := rfl
@[simp] theorem State.setGen_streams (i : Fin 256) (g : Generator) : (s.setGen i g).streams = s.streams.set i { s.stream i with gen := g } := rfl
@[simp] theorem State.setGen_lanes (i : Fin 256) (g : Generator) : (s.setGen i g).lanes = s.lanes := rfl
@[simp] theorem State.setGen_window (i : Fin 256) (g : Generator) : (s.setGen i g).window = s.window := rfl
@[simp] theorem State.setGen_store (i : Fin 256) (g : Generator) : (s.setGen i g).store = s.store := rfl
@[simp] theorem State.setGen_gates (i : Fin 256) (g : Generator) : (s.setGen i g).gates = s.gates := rfl
@[simp] theorem State.setGen_pulses (i : Fin 256) (g : Generator) : (s.setGen i g).pulses = s.pulses := rfl
@[simp] theorem State.setGen_ring (i : Fin 256) (g : Generator) : (s.setGen i g).ring = s.ring := rfl
@[simp] theorem State.setGen_events (i : Fin 256) (g : Generator) : (s.setGen i g).events = s.events := rfl
@[simp] theorem State.setGen_agent (i : Fin 256) (g : Generator) : (s.setGen i g).agent = s.agent := rfl
@[simp] theorem State.setGen_injected (i : Fin 256) (g : Generator) : (s.setGen i g).injected = s.injected := rfl
@[simp] theorem State.setGen_pending (i : Fin 256) (g : Generator) : (s.setGen i g).pending = s.pending := rfl

/-! ## setChk -/

@[simp] theorem State.setChk_inReset (i : Fin 256) (c : Checker) : (s.setChk i c).inReset = s.inReset := rfl
@[simp] theorem State.setChk_addr (i : Fin 256) (c : Checker) : (s.setChk i c).addr = s.addr := rfl
@[simp] theorem State.setChk_lanesStrap (i : Fin 256) (c : Checker) : (s.setChk i c).lanesStrap = s.lanesStrap := rfl
@[simp] theorem State.setChk_ms (i : Fin 256) (c : Checker) : (s.setChk i c).ms = s.ms := rfl
@[simp] theorem State.setChk_streams (i : Fin 256) (c : Checker) : (s.setChk i c).streams = s.streams.set i { s.stream i with chk := c } := rfl
@[simp] theorem State.setChk_lanes (i : Fin 256) (c : Checker) : (s.setChk i c).lanes = s.lanes := rfl
@[simp] theorem State.setChk_window (i : Fin 256) (c : Checker) : (s.setChk i c).window = s.window := rfl
@[simp] theorem State.setChk_store (i : Fin 256) (c : Checker) : (s.setChk i c).store = s.store := rfl
@[simp] theorem State.setChk_gates (i : Fin 256) (c : Checker) : (s.setChk i c).gates = s.gates := rfl
@[simp] theorem State.setChk_pulses (i : Fin 256) (c : Checker) : (s.setChk i c).pulses = s.pulses := rfl
@[simp] theorem State.setChk_ring (i : Fin 256) (c : Checker) : (s.setChk i c).ring = s.ring := rfl
@[simp] theorem State.setChk_events (i : Fin 256) (c : Checker) : (s.setChk i c).events = s.events := rfl
@[simp] theorem State.setChk_agent (i : Fin 256) (c : Checker) : (s.setChk i c).agent = s.agent := rfl
@[simp] theorem State.setChk_injected (i : Fin 256) (c : Checker) : (s.setChk i c).injected = s.injected := rfl
@[simp] theorem State.setChk_pending (i : Fin 256) (c : Checker) : (s.setChk i c).pending = s.pending := rfl

/-! ## mapStreams -/

@[simp] theorem State.mapStreams_inReset (f : Stream → Stream) : (s.mapStreams f).inReset = s.inReset := rfl
@[simp] theorem State.mapStreams_addr (f : Stream → Stream) : (s.mapStreams f).addr = s.addr := rfl
@[simp] theorem State.mapStreams_lanesStrap (f : Stream → Stream) : (s.mapStreams f).lanesStrap = s.lanesStrap := rfl
@[simp] theorem State.mapStreams_ms (f : Stream → Stream) : (s.mapStreams f).ms = s.ms := rfl
@[simp] theorem State.mapStreams_streams (f : Stream → Stream) : (s.mapStreams f).streams = tableMap f s.streams := rfl
@[simp] theorem State.mapStreams_lanes (f : Stream → Stream) : (s.mapStreams f).lanes = s.lanes := rfl
@[simp] theorem State.mapStreams_window (f : Stream → Stream) : (s.mapStreams f).window = s.window := rfl
@[simp] theorem State.mapStreams_store (f : Stream → Stream) : (s.mapStreams f).store = s.store := rfl
@[simp] theorem State.mapStreams_gates (f : Stream → Stream) : (s.mapStreams f).gates = s.gates := rfl
@[simp] theorem State.mapStreams_pulses (f : Stream → Stream) : (s.mapStreams f).pulses = s.pulses := rfl
@[simp] theorem State.mapStreams_ring (f : Stream → Stream) : (s.mapStreams f).ring = s.ring := rfl
@[simp] theorem State.mapStreams_events (f : Stream → Stream) : (s.mapStreams f).events = s.events := rfl
@[simp] theorem State.mapStreams_agent (f : Stream → Stream) : (s.mapStreams f).agent = s.agent := rfl
@[simp] theorem State.mapStreams_injected (f : Stream → Stream) : (s.mapStreams f).injected = s.injected := rfl
@[simp] theorem State.mapStreams_pending (f : Stream → Stream) : (s.mapStreams f).pending = s.pending := rfl

/-! ## setLane -/

@[simp] theorem State.setLane_inReset (l : Fin 16) (n : Lane) : (s.setLane l n).inReset = s.inReset := rfl
@[simp] theorem State.setLane_addr (l : Fin 16) (n : Lane) : (s.setLane l n).addr = s.addr := rfl
@[simp] theorem State.setLane_lanesStrap (l : Fin 16) (n : Lane) : (s.setLane l n).lanesStrap = s.lanesStrap := rfl
@[simp] theorem State.setLane_ms (l : Fin 16) (n : Lane) : (s.setLane l n).ms = s.ms := rfl
@[simp] theorem State.setLane_streams (l : Fin 16) (n : Lane) : (s.setLane l n).streams = s.streams := rfl
@[simp] theorem State.setLane_lanes (l : Fin 16) (n : Lane) : (s.setLane l n).lanes = s.lanes.set l n := rfl
@[simp] theorem State.setLane_window (l : Fin 16) (n : Lane) : (s.setLane l n).window = s.window := rfl
@[simp] theorem State.setLane_store (l : Fin 16) (n : Lane) : (s.setLane l n).store = s.store := rfl
@[simp] theorem State.setLane_gates (l : Fin 16) (n : Lane) : (s.setLane l n).gates = s.gates := rfl
@[simp] theorem State.setLane_pulses (l : Fin 16) (n : Lane) : (s.setLane l n).pulses = s.pulses := rfl
@[simp] theorem State.setLane_ring (l : Fin 16) (n : Lane) : (s.setLane l n).ring = s.ring := rfl
@[simp] theorem State.setLane_events (l : Fin 16) (n : Lane) : (s.setLane l n).events = s.events := rfl
@[simp] theorem State.setLane_agent (l : Fin 16) (n : Lane) : (s.setLane l n).agent = s.agent := rfl
@[simp] theorem State.setLane_injected (l : Fin 16) (n : Lane) : (s.setLane l n).injected = s.injected := rfl
@[simp] theorem State.setLane_pending (l : Fin 16) (n : Lane) : (s.setLane l n).pending = s.pending := rfl

/-! ## countLane -/

@[simp] theorem State.countLane_inReset (l : Fin 16) (f : LaneCounters → LaneCounters) : (s.countLane l f).inReset = s.inReset := rfl
@[simp] theorem State.countLane_addr (l : Fin 16) (f : LaneCounters → LaneCounters) : (s.countLane l f).addr = s.addr := rfl
@[simp] theorem State.countLane_lanesStrap (l : Fin 16) (f : LaneCounters → LaneCounters) : (s.countLane l f).lanesStrap = s.lanesStrap := rfl
@[simp] theorem State.countLane_ms (l : Fin 16) (f : LaneCounters → LaneCounters) : (s.countLane l f).ms = s.ms := rfl
@[simp] theorem State.countLane_streams (l : Fin 16) (f : LaneCounters → LaneCounters) : (s.countLane l f).streams = s.streams := rfl
@[simp] theorem State.countLane_lanes (l : Fin 16) (f : LaneCounters → LaneCounters) : (s.countLane l f).lanes = s.lanes.set l { s.lane l with counters := f (s.lane l).counters } := rfl
@[simp] theorem State.countLane_window (l : Fin 16) (f : LaneCounters → LaneCounters) : (s.countLane l f).window = s.window := rfl
@[simp] theorem State.countLane_store (l : Fin 16) (f : LaneCounters → LaneCounters) : (s.countLane l f).store = s.store := rfl
@[simp] theorem State.countLane_gates (l : Fin 16) (f : LaneCounters → LaneCounters) : (s.countLane l f).gates = s.gates := rfl
@[simp] theorem State.countLane_pulses (l : Fin 16) (f : LaneCounters → LaneCounters) : (s.countLane l f).pulses = s.pulses := rfl
@[simp] theorem State.countLane_ring (l : Fin 16) (f : LaneCounters → LaneCounters) : (s.countLane l f).ring = s.ring := rfl
@[simp] theorem State.countLane_events (l : Fin 16) (f : LaneCounters → LaneCounters) : (s.countLane l f).events = s.events := rfl
@[simp] theorem State.countLane_agent (l : Fin 16) (f : LaneCounters → LaneCounters) : (s.countLane l f).agent = s.agent := rfl
@[simp] theorem State.countLane_injected (l : Fin 16) (f : LaneCounters → LaneCounters) : (s.countLane l f).injected = s.injected := rfl
@[simp] theorem State.countLane_pending (l : Fin 16) (f : LaneCounters → LaneCounters) : (s.countLane l f).pending = s.pending := rfl

/-! ## setGate -/

@[simp] theorem State.setGate_inReset (g : Fin 4) (n : Gate) : (s.setGate g n).inReset = s.inReset := rfl
@[simp] theorem State.setGate_addr (g : Fin 4) (n : Gate) : (s.setGate g n).addr = s.addr := rfl
@[simp] theorem State.setGate_lanesStrap (g : Fin 4) (n : Gate) : (s.setGate g n).lanesStrap = s.lanesStrap := rfl
@[simp] theorem State.setGate_ms (g : Fin 4) (n : Gate) : (s.setGate g n).ms = s.ms := rfl
@[simp] theorem State.setGate_streams (g : Fin 4) (n : Gate) : (s.setGate g n).streams = s.streams := rfl
@[simp] theorem State.setGate_lanes (g : Fin 4) (n : Gate) : (s.setGate g n).lanes = s.lanes := rfl
@[simp] theorem State.setGate_window (g : Fin 4) (n : Gate) : (s.setGate g n).window = s.window := rfl
@[simp] theorem State.setGate_store (g : Fin 4) (n : Gate) : (s.setGate g n).store = s.store := rfl
@[simp] theorem State.setGate_gates (g : Fin 4) (n : Gate) : (s.setGate g n).gates = s.gates.set g n := rfl
@[simp] theorem State.setGate_pulses (g : Fin 4) (n : Gate) : (s.setGate g n).pulses = s.pulses := rfl
@[simp] theorem State.setGate_ring (g : Fin 4) (n : Gate) : (s.setGate g n).ring = s.ring := rfl
@[simp] theorem State.setGate_events (g : Fin 4) (n : Gate) : (s.setGate g n).events = s.events := rfl
@[simp] theorem State.setGate_agent (g : Fin 4) (n : Gate) : (s.setGate g n).agent = s.agent := rfl
@[simp] theorem State.setGate_injected (g : Fin 4) (n : Gate) : (s.setGate g n).injected = s.injected := rfl
@[simp] theorem State.setGate_pending (g : Fin 4) (n : Gate) : (s.setGate g n).pending = s.pending := rfl

/-! ## setStore -/

@[simp] theorem State.setStore_inReset (st : Store) : (s.setStore st).inReset = s.inReset := rfl
@[simp] theorem State.setStore_addr (st : Store) : (s.setStore st).addr = s.addr := rfl
@[simp] theorem State.setStore_lanesStrap (st : Store) : (s.setStore st).lanesStrap = s.lanesStrap := rfl
@[simp] theorem State.setStore_ms (st : Store) : (s.setStore st).ms = s.ms := rfl
@[simp] theorem State.setStore_streams (st : Store) : (s.setStore st).streams = s.streams := rfl
@[simp] theorem State.setStore_lanes (st : Store) : (s.setStore st).lanes = s.lanes := rfl
@[simp] theorem State.setStore_window (st : Store) : (s.setStore st).window = s.window := rfl
@[simp] theorem State.setStore_store (st : Store) : (s.setStore st).store = st := rfl
@[simp] theorem State.setStore_gates (st : Store) : (s.setStore st).gates = s.gates := rfl
@[simp] theorem State.setStore_pulses (st : Store) : (s.setStore st).pulses = s.pulses := rfl
@[simp] theorem State.setStore_ring (st : Store) : (s.setStore st).ring = s.ring := rfl
@[simp] theorem State.setStore_events (st : Store) : (s.setStore st).events = s.events := rfl
@[simp] theorem State.setStore_agent (st : Store) : (s.setStore st).agent = s.agent := rfl
@[simp] theorem State.setStore_injected (st : Store) : (s.setStore st).injected = s.injected := rfl
@[simp] theorem State.setStore_pending (st : Store) : (s.setStore st).pending = s.pending := rfl

/-! ## setRing -/

@[simp] theorem State.setRing_inReset (r : Ring) : (s.setRing r).inReset = s.inReset := rfl
@[simp] theorem State.setRing_addr (r : Ring) : (s.setRing r).addr = s.addr := rfl
@[simp] theorem State.setRing_lanesStrap (r : Ring) : (s.setRing r).lanesStrap = s.lanesStrap := rfl
@[simp] theorem State.setRing_ms (r : Ring) : (s.setRing r).ms = s.ms := rfl
@[simp] theorem State.setRing_streams (r : Ring) : (s.setRing r).streams = s.streams := rfl
@[simp] theorem State.setRing_lanes (r : Ring) : (s.setRing r).lanes = s.lanes := rfl
@[simp] theorem State.setRing_window (r : Ring) : (s.setRing r).window = s.window := rfl
@[simp] theorem State.setRing_store (r : Ring) : (s.setRing r).store = s.store := rfl
@[simp] theorem State.setRing_gates (r : Ring) : (s.setRing r).gates = s.gates := rfl
@[simp] theorem State.setRing_pulses (r : Ring) : (s.setRing r).pulses = s.pulses := rfl
@[simp] theorem State.setRing_ring (r : Ring) : (s.setRing r).ring = r := rfl
@[simp] theorem State.setRing_events (r : Ring) : (s.setRing r).events = s.events := rfl
@[simp] theorem State.setRing_agent (r : Ring) : (s.setRing r).agent = s.agent := rfl
@[simp] theorem State.setRing_injected (r : Ring) : (s.setRing r).injected = s.injected := rfl
@[simp] theorem State.setRing_pending (r : Ring) : (s.setRing r).pending = s.pending := rfl

/-! ## setEvents -/

@[simp] theorem State.setEvents_inReset (e : EventUnit) : (s.setEvents e).inReset = s.inReset := rfl
@[simp] theorem State.setEvents_addr (e : EventUnit) : (s.setEvents e).addr = s.addr := rfl
@[simp] theorem State.setEvents_lanesStrap (e : EventUnit) : (s.setEvents e).lanesStrap = s.lanesStrap := rfl
@[simp] theorem State.setEvents_ms (e : EventUnit) : (s.setEvents e).ms = s.ms := rfl
@[simp] theorem State.setEvents_streams (e : EventUnit) : (s.setEvents e).streams = s.streams := rfl
@[simp] theorem State.setEvents_lanes (e : EventUnit) : (s.setEvents e).lanes = s.lanes := rfl
@[simp] theorem State.setEvents_window (e : EventUnit) : (s.setEvents e).window = s.window := rfl
@[simp] theorem State.setEvents_store (e : EventUnit) : (s.setEvents e).store = s.store := rfl
@[simp] theorem State.setEvents_gates (e : EventUnit) : (s.setEvents e).gates = s.gates := rfl
@[simp] theorem State.setEvents_pulses (e : EventUnit) : (s.setEvents e).pulses = s.pulses := rfl
@[simp] theorem State.setEvents_ring (e : EventUnit) : (s.setEvents e).ring = s.ring := rfl
@[simp] theorem State.setEvents_events (e : EventUnit) : (s.setEvents e).events = e := rfl
@[simp] theorem State.setEvents_agent (e : EventUnit) : (s.setEvents e).agent = s.agent := rfl
@[simp] theorem State.setEvents_injected (e : EventUnit) : (s.setEvents e).injected = s.injected := rfl
@[simp] theorem State.setEvents_pending (e : EventUnit) : (s.setEvents e).pending = s.pending := rfl

/-! ## setAgent -/

@[simp] theorem State.setAgent_inReset (a : Agent) : (s.setAgent a).inReset = s.inReset := rfl
@[simp] theorem State.setAgent_addr (a : Agent) : (s.setAgent a).addr = s.addr := rfl
@[simp] theorem State.setAgent_lanesStrap (a : Agent) : (s.setAgent a).lanesStrap = s.lanesStrap := rfl
@[simp] theorem State.setAgent_ms (a : Agent) : (s.setAgent a).ms = s.ms := rfl
@[simp] theorem State.setAgent_streams (a : Agent) : (s.setAgent a).streams = s.streams := rfl
@[simp] theorem State.setAgent_lanes (a : Agent) : (s.setAgent a).lanes = s.lanes := rfl
@[simp] theorem State.setAgent_window (a : Agent) : (s.setAgent a).window = s.window := rfl
@[simp] theorem State.setAgent_store (a : Agent) : (s.setAgent a).store = s.store := rfl
@[simp] theorem State.setAgent_gates (a : Agent) : (s.setAgent a).gates = s.gates := rfl
@[simp] theorem State.setAgent_pulses (a : Agent) : (s.setAgent a).pulses = s.pulses := rfl
@[simp] theorem State.setAgent_ring (a : Agent) : (s.setAgent a).ring = s.ring := rfl
@[simp] theorem State.setAgent_events (a : Agent) : (s.setAgent a).events = s.events := rfl
@[simp] theorem State.setAgent_agent (a : Agent) : (s.setAgent a).agent = a := rfl
@[simp] theorem State.setAgent_injected (a : Agent) : (s.setAgent a).injected = s.injected := rfl
@[simp] theorem State.setAgent_pending (a : Agent) : (s.setAgent a).pending = s.pending := rfl

/-! ## dequeue -/

@[simp] theorem State.dequeue_inReset (rest : List ControlFrame) : (s.dequeue rest).inReset = s.inReset := rfl
@[simp] theorem State.dequeue_addr (rest : List ControlFrame) : (s.dequeue rest).addr = s.addr := rfl
@[simp] theorem State.dequeue_lanesStrap (rest : List ControlFrame) : (s.dequeue rest).lanesStrap = s.lanesStrap := rfl
@[simp] theorem State.dequeue_ms (rest : List ControlFrame) : (s.dequeue rest).ms = s.ms := rfl
@[simp] theorem State.dequeue_streams (rest : List ControlFrame) : (s.dequeue rest).streams = s.streams := rfl
@[simp] theorem State.dequeue_lanes (rest : List ControlFrame) : (s.dequeue rest).lanes = s.lanes := rfl
@[simp] theorem State.dequeue_window (rest : List ControlFrame) : (s.dequeue rest).window = s.window := rfl
@[simp] theorem State.dequeue_store (rest : List ControlFrame) : (s.dequeue rest).store = s.store := rfl
@[simp] theorem State.dequeue_gates (rest : List ControlFrame) : (s.dequeue rest).gates = s.gates := rfl
@[simp] theorem State.dequeue_pulses (rest : List ControlFrame) : (s.dequeue rest).pulses = s.pulses := rfl
@[simp] theorem State.dequeue_ring (rest : List ControlFrame) : (s.dequeue rest).ring = s.ring := rfl
@[simp] theorem State.dequeue_events (rest : List ControlFrame) : (s.dequeue rest).events = s.events := rfl
@[simp] theorem State.dequeue_agent (rest : List ControlFrame) : (s.dequeue rest).agent = { s.agent with commands := rest } := rfl
@[simp] theorem State.dequeue_injected (rest : List ControlFrame) : (s.dequeue rest).injected = s.injected := rfl
@[simp] theorem State.dequeue_pending (rest : List ControlFrame) : (s.dequeue rest).pending = s.pending := rfl

/-! ## Reading a table after an update -/

@[simp] theorem State.stream_setStream (i j : Fin 256) (r : Stream) :
    (s.setStream i r).stream j = if i = j then r else s.stream j := by
  simp [State.stream, Vector.getElem_set, Fin.ext_iff]

@[simp] theorem State.lane_setLane (i j : Fin 16) (n : Lane) :
    (s.setLane i n).lane j = if i = j then n else s.lane j := by
  simp [State.lane, Vector.getElem_set, Fin.ext_iff]

@[simp] theorem State.gate_setGate (i j : Fin 4) (n : Gate) :
    (s.setGate i n).gate j = if i = j then n else s.gate j := by
  simp [State.gate, Vector.getElem_set, Fin.ext_iff]

@[simp] theorem State.stream_mapStreams (f : Stream → Stream) (j : Fin 256) :
    (s.mapStreams f).stream j = f (s.stream j) := by
  simp [State.stream]

theorem State.stream_congr {s t : State} (h : s.streams = t.streams) (i : Fin 256) : s.stream i = t.stream i := by
  simp [State.stream, h]

theorem State.lane_congr {s t : State} (h : s.lanes = t.lanes) (l : Fin 16) : s.lane l = t.lane l := by
  simp [State.lane, h]

theorem State.gate_congr {s t : State} (h : s.gates = t.gates) (g : Fin 4) : s.gate g = t.gate g := by
  simp [State.gate, h]

theorem State.stream_setGen (i j : Fin 256) (g : Generator) :
    (s.setGen i g).stream j = if i = j then { s.stream i with gen := g } else s.stream j :=
  State.stream_setStream s i j _

theorem State.stream_setChk (i j : Fin 256) (c : Checker) :
    (s.setChk i c).stream j = if i = j then { s.stream i with chk := c } else s.stream j :=
  State.stream_setStream s i j _

/-- Two states with the same entries in the stream table have the same table. -/
theorem State.streams_ext {s t : State} (h : ∀ i, s.stream i = t.stream i) : s.streams = t.streams := by
  apply Vector.ext
  intro i hi
  exact h ⟨i, hi⟩

end Sys2Proof.Machine
end

