-- ==== Sys2Proof/Laws/Ops.lean ====
section
/-! SUPPORT. One law per shared operation: what it can do, and what it leaves alone. -/

namespace Sys2Proof.Machine

/-! ## Checks in order -/

theorem firstFail_eq_none {cs : List (Bool × Status)} : firstFail cs = none ↔ ∀ c ∈ cs, c.1 = true := by
  induction cs with
  | nil => simp [firstFail]
  | cons c cs ih =>
    obtain ⟨b, st⟩ := c
    cases b <;> simp [firstFail, ih]

@[simp] theorem firstFail_nil : firstFail [] = none := rfl

@[simp] theorem firstFail_cons (b : Bool) (st : Status) (cs : List (Bool × Status)) :
    firstFail ((b, st) :: cs) = if b = true then firstFail cs else some st := by
  cases b <;> rfl

@[simp] theorem checked_nil (s : State) (k : Answer × State) : checked [] s k = k := rfl

/-- The first check decides, or the rest do. -/
theorem checked_cons (b : Bool) (st : Status) (cs : List (Bool × Status)) (s : State) (k : Answer × State) :
    checked ((b, st) :: cs) s k = if b = true then checked cs s k else (.fail st, s) := by
  cases b <;> rfl

/-- A command's checks: a refusal that changes nothing, or its action. -/
theorem checked_cases (cs : List (Bool × Status)) (s : State) (k : Answer × State) :
    (∃ st, firstFail cs = some st ∧ checked cs s k = (.fail st, s)) ∨ (firstFail cs = none ∧ checked cs s k = k) := by
  unfold checked
  cases firstFail cs with
  | none => exact .inr ⟨rfl, rfl⟩
  | some st => exact .inl ⟨st, rfl, rfl⟩

/-! ## Notices -/

/-- A notice enters the queue or is dropped and counted; nothing else changes (R159). -/
theorem State.notify_cases (s : State) (code : Nat) (scope : BitVec 16) (d1 d2 : Word) :
    (s.agent.outbound.length < Config.noticeShare ∧
        s.notify code scope d1 d2 =
          { s with agent := { s.agent with outbound := s.agent.outbound ++
              [⟨true, buildFrame kindNotice s.addr 0 0 0 (noticeBody code scope d1 d2)⟩] } })
      ∨ (Config.noticeShare ≤ s.agent.outbound.length ∧
        s.notify code scope d1 d2 = { s with events := { s.events with drops := satAdd s.events.drops 1 } }) := by
  unfold State.notify
  split
  · exact .inl ⟨by assumption, rfl⟩
  · exact .inr ⟨by omega, rfl⟩

@[simp] theorem State.notify_inReset (s : State) (code : Nat) (scope : BitVec 16) (d1 d2 : Word) :
    (s.notify code scope d1 d2).inReset = s.inReset := by unfold State.notify; split <;> rfl
@[simp] theorem State.notify_addr (s : State) (code : Nat) (scope : BitVec 16) (d1 d2 : Word) :
    (s.notify code scope d1 d2).addr = s.addr := by unfold State.notify; split <;> rfl
@[simp] theorem State.notify_lanesStrap (s : State) (code : Nat) (scope : BitVec 16) (d1 d2 : Word) :
    (s.notify code scope d1 d2).lanesStrap = s.lanesStrap := by unfold State.notify; split <;> rfl
@[simp] theorem State.notify_ms (s : State) (code : Nat) (scope : BitVec 16) (d1 d2 : Word) :
    (s.notify code scope d1 d2).ms = s.ms := by unfold State.notify; split <;> rfl
@[simp] theorem State.notify_streams (s : State) (code : Nat) (scope : BitVec 16) (d1 d2 : Word) :
    (s.notify code scope d1 d2).streams = s.streams := by unfold State.notify; split <;> rfl
@[simp] theorem State.notify_lanes (s : State) (code : Nat) (scope : BitVec 16) (d1 d2 : Word) :
    (s.notify code scope d1 d2).lanes = s.lanes := by unfold State.notify; split <;> rfl
@[simp] theorem State.notify_window (s : State) (code : Nat) (scope : BitVec 16) (d1 d2 : Word) :
    (s.notify code scope d1 d2).window = s.window := by unfold State.notify; split <;> rfl
@[simp] theorem State.notify_store (s : State) (code : Nat) (scope : BitVec 16) (d1 d2 : Word) :
    (s.notify code scope d1 d2).store = s.store := by unfold State.notify; split <;> rfl
@[simp] theorem State.notify_gates (s : State) (code : Nat) (scope : BitVec 16) (d1 d2 : Word) :
    (s.notify code scope d1 d2).gates = s.gates := by unfold State.notify; split <;> rfl
@[simp] theorem State.notify_pulses (s : State) (code : Nat) (scope : BitVec 16) (d1 d2 : Word) :
    (s.notify code scope d1 d2).pulses = s.pulses := by unfold State.notify; split <;> rfl
@[simp] theorem State.notify_ring (s : State) (code : Nat) (scope : BitVec 16) (d1 d2 : Word) :
    (s.notify code scope d1 d2).ring = s.ring := by unfold State.notify; split <;> rfl
@[simp] theorem State.notify_injected (s : State) (code : Nat) (scope : BitVec 16) (d1 d2 : Word) :
    (s.notify code scope d1 d2).injected = s.injected := by unfold State.notify; split <;> rfl
@[simp] theorem State.notify_pending (s : State) (code : Nat) (scope : BitVec 16) (d1 d2 : Word) :
    (s.notify code scope d1 d2).pending = s.pending := by unfold State.notify; split <;> rfl

@[simp] theorem State.notify_device (s : State) (code : Nat) (scope : BitVec 16) (d1 d2 : Word) :
    (s.notify code scope d1 d2).events.device = s.events.device := by unfold State.notify; split <;> rfl

@[simp] theorem State.notify_listed (s : State) (code : Nat) (scope : BitVec 16) (d1 d2 : Word) :
    (s.notify code scope d1 d2).events.listed = s.events.listed := by unfold State.notify; split <;> rfl

@[simp] theorem State.notify_policies (s : State) (code : Nat) (scope : BitVec 16) (d1 d2 : Word) :
    (s.notify code scope d1 d2).events.policies = s.events.policies := by unfold State.notify; split <;> rfl

@[simp] theorem State.notify_commands (s : State) (code : Nat) (scope : BitVec 16) (d1 d2 : Word) :
    (s.notify code scope d1 d2).agent.commands = s.agent.commands := by unfold State.notify; split <;> rfl

@[simp] theorem State.notify_waiting (s : State) (code : Nat) (scope : BitVec 16) (d1 d2 : Word) :
    (s.notify code scope d1 d2).agent.waiting = s.agent.waiting := by unfold State.notify; split <;> rfl

@[simp] theorem State.notify_overruns (s : State) (code : Nat) (scope : BitVec 16) (d1 d2 : Word) :
    (s.notify code scope d1 d2).agent.overruns = s.agent.overruns := by unfold State.notify; split <;> rfl

/-! ## Raises -/

/-- A raise of a device kind: not recorded when the kind is DISABLED or pending already; else added to the device set, with a
notice when the policy is HIGH (R158). -/
theorem State.raiseDevice_cases (s : State) (k : DeviceKind) (d1 d2 : Word) :
    (s.policy (.device k) = .disabled ∨ s.events.device.has k.code = true) ∧ s.raiseDevice k d1 d2 = s
      ∨ (s.policy (.device k) ≠ .disabled ∧ s.events.device.has k.code = false) ∧
        (s.policy (.device k) = .high ∧
            s.raiseDevice k d1 d2 =
              (s.setEvents { s.events with device := s.events.device.insert k.code }).notify k.code 0xFFFF d1 d2
          ∨ s.policy (.device k) ≠ .high ∧
            s.raiseDevice k d1 d2 = s.setEvents { s.events with device := s.events.device.insert k.code }) := by
  unfold State.raiseDevice
  by_cases h1 : s.policy (.device k) = .disabled
  · simp [h1]
  · by_cases h2 : s.events.device.has k.code = true
    · simp [h1, h2]
    · by_cases h3 : s.policy (.device k) = .high <;> simp [h1, h2, h3]

@[simp] theorem State.raiseDevice_inReset (s : State) (k : DeviceKind) (d1 d2 : Word) :
    (s.raiseDevice k d1 d2).inReset = s.inReset := by unfold State.raiseDevice; simp only []; split_ifs <;> simp
@[simp] theorem State.raiseDevice_addr (s : State) (k : DeviceKind) (d1 d2 : Word) :
    (s.raiseDevice k d1 d2).addr = s.addr := by unfold State.raiseDevice; simp only []; split_ifs <;> simp
@[simp] theorem State.raiseDevice_lanesStrap (s : State) (k : DeviceKind) (d1 d2 : Word) :
    (s.raiseDevice k d1 d2).lanesStrap = s.lanesStrap := by unfold State.raiseDevice; simp only []; split_ifs <;> simp
@[simp] theorem State.raiseDevice_ms (s : State) (k : DeviceKind) (d1 d2 : Word) :
    (s.raiseDevice k d1 d2).ms = s.ms := by unfold State.raiseDevice; simp only []; split_ifs <;> simp
@[simp] theorem State.raiseDevice_streams (s : State) (k : DeviceKind) (d1 d2 : Word) :
    (s.raiseDevice k d1 d2).streams = s.streams := by unfold State.raiseDevice; simp only []; split_ifs <;> simp
@[simp] theorem State.raiseDevice_lanes (s : State) (k : DeviceKind) (d1 d2 : Word) :
    (s.raiseDevice k d1 d2).lanes = s.lanes := by unfold State.raiseDevice; simp only []; split_ifs <;> simp
@[simp] theorem State.raiseDevice_window (s : State) (k : DeviceKind) (d1 d2 : Word) :
    (s.raiseDevice k d1 d2).window = s.window := by unfold State.raiseDevice; simp only []; split_ifs <;> simp
@[simp] theorem State.raiseDevice_store (s : State) (k : DeviceKind) (d1 d2 : Word) :
    (s.raiseDevice k d1 d2).store = s.store := by unfold State.raiseDevice; simp only []; split_ifs <;> simp
@[simp] theorem State.raiseDevice_gates (s : State) (k : DeviceKind) (d1 d2 : Word) :
    (s.raiseDevice k d1 d2).gates = s.gates := by unfold State.raiseDevice; simp only []; split_ifs <;> simp
@[simp] theorem State.raiseDevice_pulses (s : State) (k : DeviceKind) (d1 d2 : Word) :
    (s.raiseDevice k d1 d2).pulses = s.pulses := by unfold State.raiseDevice; simp only []; split_ifs <;> simp
@[simp] theorem State.raiseDevice_ring (s : State) (k : DeviceKind) (d1 d2 : Word) :
    (s.raiseDevice k d1 d2).ring = s.ring := by unfold State.raiseDevice; simp only []; split_ifs <;> simp
@[simp] theorem State.raiseDevice_injected (s : State) (k : DeviceKind) (d1 d2 : Word) :
    (s.raiseDevice k d1 d2).injected = s.injected := by unfold State.raiseDevice; simp only []; split_ifs <;> simp
@[simp] theorem State.raiseDevice_pending (s : State) (k : DeviceKind) (d1 d2 : Word) :
    (s.raiseDevice k d1 d2).pending = s.pending := by unfold State.raiseDevice; simp only []; split_ifs <;> simp

@[simp] theorem State.raiseDevice_listed (s : State) (k : DeviceKind) (d1 d2 : Word) :
    (s.raiseDevice k d1 d2).events.listed = s.events.listed := by unfold State.raiseDevice; simp only []; split_ifs <;> simp
@[simp] theorem State.raiseDevice_policies (s : State) (k : DeviceKind) (d1 d2 : Word) :
    (s.raiseDevice k d1 d2).events.policies = s.events.policies := by unfold State.raiseDevice; simp only []; split_ifs <;> simp
@[simp] theorem State.raiseDevice_commands (s : State) (k : DeviceKind) (d1 d2 : Word) :
    (s.raiseDevice k d1 d2).agent.commands = s.agent.commands := by unfold State.raiseDevice; simp only []; split_ifs <;> simp
@[simp] theorem State.raiseDevice_waiting (s : State) (k : DeviceKind) (d1 d2 : Word) :
    (s.raiseDevice k d1 d2).agent.waiting = s.agent.waiting := by unfold State.raiseDevice; simp only []; split_ifs <;> simp
@[simp] theorem State.raiseDevice_overruns (s : State) (k : DeviceKind) (d1 d2 : Word) :
    (s.raiseDevice k d1 d2).agent.overruns = s.agent.overruns := by unfold State.raiseDevice; simp only []; split_ifs <;> simp

@[simp] theorem State.raiseStream_inReset (s : State) (i : Fin 256) (k : StreamKind) :
    (s.raiseStream i k).inReset = s.inReset := by unfold State.raiseStream; simp only []; split_ifs <;> simp
@[simp] theorem State.raiseStream_addr (s : State) (i : Fin 256) (k : StreamKind) :
    (s.raiseStream i k).addr = s.addr := by unfold State.raiseStream; simp only []; split_ifs <;> simp
@[simp] theorem State.raiseStream_lanesStrap (s : State) (i : Fin 256) (k : StreamKind) :
    (s.raiseStream i k).lanesStrap = s.lanesStrap := by unfold State.raiseStream; simp only []; split_ifs <;> simp
@[simp] theorem State.raiseStream_ms (s : State) (i : Fin 256) (k : StreamKind) :
    (s.raiseStream i k).ms = s.ms := by unfold State.raiseStream; simp only []; split_ifs <;> simp
@[simp] theorem State.raiseStream_lanes (s : State) (i : Fin 256) (k : StreamKind) :
    (s.raiseStream i k).lanes = s.lanes := by unfold State.raiseStream; simp only []; split_ifs <;> simp
@[simp] theorem State.raiseStream_window (s : State) (i : Fin 256) (k : StreamKind) :
    (s.raiseStream i k).window = s.window := by unfold State.raiseStream; simp only []; split_ifs <;> simp
@[simp] theorem State.raiseStream_store (s : State) (i : Fin 256) (k : StreamKind) :
    (s.raiseStream i k).store = s.store := by unfold State.raiseStream; simp only []; split_ifs <;> simp
@[simp] theorem State.raiseStream_gates (s : State) (i : Fin 256) (k : StreamKind) :
    (s.raiseStream i k).gates = s.gates := by unfold State.raiseStream; simp only []; split_ifs <;> simp
@[simp] theorem State.raiseStream_pulses (s : State) (i : Fin 256) (k : StreamKind) :
    (s.raiseStream i k).pulses = s.pulses := by unfold State.raiseStream; simp only []; split_ifs <;> simp
@[simp] theorem State.raiseStream_ring (s : State) (i : Fin 256) (k : StreamKind) :
    (s.raiseStream i k).ring = s.ring := by unfold State.raiseStream; simp only []; split_ifs <;> simp
@[simp] theorem State.raiseStream_injected (s : State) (i : Fin 256) (k : StreamKind) :
    (s.raiseStream i k).injected = s.injected := by unfold State.raiseStream; simp only []; split_ifs <;> simp
@[simp] theorem State.raiseStream_pending (s : State) (i : Fin 256) (k : StreamKind) :
    (s.raiseStream i k).pending = s.pending := by unfold State.raiseStream; simp only []; split_ifs <;> simp

@[simp] theorem State.raiseStream_device (s : State) (i : Fin 256) (k : StreamKind) :
    (s.raiseStream i k).events.device = s.events.device := by unfold State.raiseStream; simp only []; split_ifs <;> simp
@[simp] theorem State.raiseStream_policies (s : State) (i : Fin 256) (k : StreamKind) :
    (s.raiseStream i k).events.policies = s.events.policies := by unfold State.raiseStream; simp only []; split_ifs <;> simp
@[simp] theorem State.raiseStream_commands (s : State) (i : Fin 256) (k : StreamKind) :
    (s.raiseStream i k).agent.commands = s.agent.commands := by unfold State.raiseStream; simp only []; split_ifs <;> simp
@[simp] theorem State.raiseStream_waiting (s : State) (i : Fin 256) (k : StreamKind) :
    (s.raiseStream i k).agent.waiting = s.agent.waiting := by unfold State.raiseStream; simp only []; split_ifs <;> simp
@[simp] theorem State.raiseStream_overruns (s : State) (i : Fin 256) (k : StreamKind) :
    (s.raiseStream i k).agent.overruns = s.agent.overruns := by unfold State.raiseStream; simp only []; split_ifs <;> simp

/-- A raise of a stream kind changes, in the table, the pending set of its stream alone. -/
theorem State.raiseStream_stream (s : State) (i j : Fin 256) (k : StreamKind) :
    (s.raiseStream i k).stream j = { s.stream j with events := ((s.raiseStream i k).stream j).events } := by
  unfold State.raiseStream
  simp only []
  split_ifs with h1 h2 h3 <;>
    simp only [State.stream_congr (State.notify_streams _ _ _ _ _), State.stream_congr (State.setEvents_streams _ _)] <;>
    (try rw [State.stream_setStream]) <;> (try split) <;> simp_all

@[simp] theorem State.raiseStream_stream_configured (s : State) (i j : Fin 256) (k : StreamKind) :
    ((s.raiseStream i k).stream j).configured = (s.stream j).configured := by rw [State.raiseStream_stream]
@[simp] theorem State.raiseStream_stream_config (s : State) (i j : Fin 256) (k : StreamKind) :
    ((s.raiseStream i k).stream j).config = (s.stream j).config := by rw [State.raiseStream_stream]
@[simp] theorem State.raiseStream_stream_gen (s : State) (i j : Fin 256) (k : StreamKind) :
    ((s.raiseStream i k).stream j).gen = (s.stream j).gen := by rw [State.raiseStream_stream]
@[simp] theorem State.raiseStream_stream_chk (s : State) (i j : Fin 256) (k : StreamKind) :
    ((s.raiseStream i k).stream j).chk = (s.stream j).chk := by rw [State.raiseStream_stream]

/-- Every raise of a list leaves alone what one raise leaves alone. -/
theorem State.raiseAll_induction {P : State → Prop} {i : Fin 256} (hk : ∀ s k, P s → P (s.raiseStream i k)) {s : State}
    (ks : List StreamKind) (h : P s) : P (s.raiseAll i ks) := by
  induction ks generalizing s with
  | nil => exact h
  | cons k ks ih => exact ih (hk s k h)

@[simp] theorem State.raiseAll_inReset (s : State) (i : Fin 256) (ks : List StreamKind) :
    (s.raiseAll i ks).inReset = s.inReset :=
  State.raiseAll_induction (P := fun t => t.inReset = s.inReset) (fun _ _ h => by simpa using h) ks rfl
@[simp] theorem State.raiseAll_addr (s : State) (i : Fin 256) (ks : List StreamKind) :
    (s.raiseAll i ks).addr = s.addr :=
  State.raiseAll_induction (P := fun t => t.addr = s.addr) (fun _ _ h => by simpa using h) ks rfl
@[simp] theorem State.raiseAll_lanesStrap (s : State) (i : Fin 256) (ks : List StreamKind) :
    (s.raiseAll i ks).lanesStrap = s.lanesStrap :=
  State.raiseAll_induction (P := fun t => t.lanesStrap = s.lanesStrap) (fun _ _ h => by simpa using h) ks rfl
@[simp] theorem State.raiseAll_ms (s : State) (i : Fin 256) (ks : List StreamKind) :
    (s.raiseAll i ks).ms = s.ms :=
  State.raiseAll_induction (P := fun t => t.ms = s.ms) (fun _ _ h => by simpa using h) ks rfl
@[simp] theorem State.raiseAll_lanes (s : State) (i : Fin 256) (ks : List StreamKind) :
    (s.raiseAll i ks).lanes = s.lanes :=
  State.raiseAll_induction (P := fun t => t.lanes = s.lanes) (fun _ _ h => by simpa using h) ks rfl
@[simp] theorem State.raiseAll_window (s : State) (i : Fin 256) (ks : List StreamKind) :
    (s.raiseAll i ks).window = s.window :=
  State.raiseAll_induction (P := fun t => t.window = s.window) (fun _ _ h => by simpa using h) ks rfl
@[simp] theorem State.raiseAll_store (s : State) (i : Fin 256) (ks : List StreamKind) :
    (s.raiseAll i ks).store = s.store :=
  State.raiseAll_induction (P := fun t => t.store = s.store) (fun _ _ h => by simpa using h) ks rfl
@[simp] theorem State.raiseAll_gates (s : State) (i : Fin 256) (ks : List StreamKind) :
    (s.raiseAll i ks).gates = s.gates :=
  State.raiseAll_induction (P := fun t => t.gates = s.gates) (fun _ _ h => by simpa using h) ks rfl
@[simp] theorem State.raiseAll_pulses (s : State) (i : Fin 256) (ks : List StreamKind) :
    (s.raiseAll i ks).pulses = s.pulses :=
  State.raiseAll_induction (P := fun t => t.pulses = s.pulses) (fun _ _ h => by simpa using h) ks rfl
@[simp] theorem State.raiseAll_ring (s : State) (i : Fin 256) (ks : List StreamKind) :
    (s.raiseAll i ks).ring = s.ring :=
  State.raiseAll_induction (P := fun t => t.ring = s.ring) (fun _ _ h => by simpa using h) ks rfl
@[simp] theorem State.raiseAll_injected (s : State) (i : Fin 256) (ks : List StreamKind) :
    (s.raiseAll i ks).injected = s.injected :=
  State.raiseAll_induction (P := fun t => t.injected = s.injected) (fun _ _ h => by simpa using h) ks rfl
@[simp] theorem State.raiseAll_pending (s : State) (i : Fin 256) (ks : List StreamKind) :
    (s.raiseAll i ks).pending = s.pending :=
  State.raiseAll_induction (P := fun t => t.pending = s.pending) (fun _ _ h => by simpa using h) ks rfl
@[simp] theorem State.raiseAll_stream_configured (s : State) (i j : Fin 256) (ks : List StreamKind) :
    ((s.raiseAll i ks).stream j).configured = (s.stream j).configured :=
  State.raiseAll_induction (P := fun t => (t.stream j).configured = (s.stream j).configured) (fun _ _ h => by simpa using h) ks rfl
@[simp] theorem State.raiseAll_stream_config (s : State) (i j : Fin 256) (ks : List StreamKind) :
    ((s.raiseAll i ks).stream j).config = (s.stream j).config :=
  State.raiseAll_induction (P := fun t => (t.stream j).config = (s.stream j).config) (fun _ _ h => by simpa using h) ks rfl
@[simp] theorem State.raiseAll_stream_gen (s : State) (i j : Fin 256) (ks : List StreamKind) :
    ((s.raiseAll i ks).stream j).gen = (s.stream j).gen :=
  State.raiseAll_induction (P := fun t => (t.stream j).gen = (s.stream j).gen) (fun _ _ h => by simpa using h) ks rfl
@[simp] theorem State.raiseAll_stream_chk (s : State) (i j : Fin 256) (ks : List StreamKind) :
    ((s.raiseAll i ks).stream j).chk = (s.stream j).chk :=
  State.raiseAll_induction (P := fun t => (t.stream j).chk = (s.stream j).chk) (fun _ _ h => by simpa using h) ks rfl

/-! ## Replies -/

/-- A reply joins the Outbound Queue or becomes the waiting reply; nothing else changes (R167). -/
theorem State.sendReply_cases (s : State) (r : Frame) :
    (s.agent.outbound.length < Config.outboundCapacity ∧
        s.sendReply r = { s with agent := { s.agent with outbound := s.agent.outbound ++ [⟨false, r⟩] } })
      ∨ (Config.outboundCapacity ≤ s.agent.outbound.length ∧
        s.sendReply r = { s with agent := { s.agent with waiting := some ⟨false, r⟩ } }) := by
  unfold State.sendReply
  split
  · exact .inl ⟨by assumption, rfl⟩
  · exact .inr ⟨by omega, rfl⟩

@[simp] theorem State.sendReply_inReset (s : State) (r : Frame) :
    (s.sendReply r).inReset = s.inReset := by unfold State.sendReply; split <;> rfl
@[simp] theorem State.sendReply_addr (s : State) (r : Frame) :
    (s.sendReply r).addr = s.addr := by unfold State.sendReply; split <;> rfl
@[simp] theorem State.sendReply_lanesStrap (s : State) (r : Frame) :
    (s.sendReply r).lanesStrap = s.lanesStrap := by unfold State.sendReply; split <;> rfl
@[simp] theorem State.sendReply_ms (s : State) (r : Frame) :
    (s.sendReply r).ms = s.ms := by unfold State.sendReply; split <;> rfl
@[simp] theorem State.sendReply_streams (s : State) (r : Frame) :
    (s.sendReply r).streams = s.streams := by unfold State.sendReply; split <;> rfl
@[simp] theorem State.sendReply_lanes (s : State) (r : Frame) :
    (s.sendReply r).lanes = s.lanes := by unfold State.sendReply; split <;> rfl
@[simp] theorem State.sendReply_window (s : State) (r : Frame) :
    (s.sendReply r).window = s.window := by unfold State.sendReply; split <;> rfl
@[simp] theorem State.sendReply_store (s : State) (r : Frame) :
    (s.sendReply r).store = s.store := by unfold State.sendReply; split <;> rfl
@[simp] theorem State.sendReply_gates (s : State) (r : Frame) :
    (s.sendReply r).gates = s.gates := by unfold State.sendReply; split <;> rfl
@[simp] theorem State.sendReply_pulses (s : State) (r : Frame) :
    (s.sendReply r).pulses = s.pulses := by unfold State.sendReply; split <;> rfl
@[simp] theorem State.sendReply_ring (s : State) (r : Frame) :
    (s.sendReply r).ring = s.ring := by unfold State.sendReply; split <;> rfl
@[simp] theorem State.sendReply_events (s : State) (r : Frame) :
    (s.sendReply r).events = s.events := by unfold State.sendReply; split <;> rfl
@[simp] theorem State.sendReply_injected (s : State) (r : Frame) :
    (s.sendReply r).injected = s.injected := by unfold State.sendReply; split <;> rfl
@[simp] theorem State.sendReply_pending (s : State) (r : Frame) :
    (s.sendReply r).pending = s.pending := by unfold State.sendReply; split <;> rfl

@[simp] theorem State.answer_inReset (s : State) (f : ControlFrame) (echo : Byte) (a : Answer) :
    (s.answer f echo a).inReset = s.inReset := by unfold State.answer; split <;> simp
@[simp] theorem State.answer_addr (s : State) (f : ControlFrame) (echo : Byte) (a : Answer) :
    (s.answer f echo a).addr = s.addr := by unfold State.answer; split <;> simp
@[simp] theorem State.answer_lanesStrap (s : State) (f : ControlFrame) (echo : Byte) (a : Answer) :
    (s.answer f echo a).lanesStrap = s.lanesStrap := by unfold State.answer; split <;> simp
@[simp] theorem State.answer_ms (s : State) (f : ControlFrame) (echo : Byte) (a : Answer) :
    (s.answer f echo a).ms = s.ms := by unfold State.answer; split <;> simp
@[simp] theorem State.answer_streams (s : State) (f : ControlFrame) (echo : Byte) (a : Answer) :
    (s.answer f echo a).streams = s.streams := by unfold State.answer; split <;> simp
@[simp] theorem State.answer_lanes (s : State) (f : ControlFrame) (echo : Byte) (a : Answer) :
    (s.answer f echo a).lanes = s.lanes := by unfold State.answer; split <;> simp
@[simp] theorem State.answer_window (s : State) (f : ControlFrame) (echo : Byte) (a : Answer) :
    (s.answer f echo a).window = s.window := by unfold State.answer; split <;> simp
@[simp] theorem State.answer_store (s : State) (f : ControlFrame) (echo : Byte) (a : Answer) :
    (s.answer f echo a).store = s.store := by unfold State.answer; split <;> simp
@[simp] theorem State.answer_gates (s : State) (f : ControlFrame) (echo : Byte) (a : Answer) :
    (s.answer f echo a).gates = s.gates := by unfold State.answer; split <;> simp
@[simp] theorem State.answer_pulses (s : State) (f : ControlFrame) (echo : Byte) (a : Answer) :
    (s.answer f echo a).pulses = s.pulses := by unfold State.answer; split <;> simp
@[simp] theorem State.answer_ring (s : State) (f : ControlFrame) (echo : Byte) (a : Answer) :
    (s.answer f echo a).ring = s.ring := by unfold State.answer; split <;> simp
@[simp] theorem State.answer_events (s : State) (f : ControlFrame) (echo : Byte) (a : Answer) :
    (s.answer f echo a).events = s.events := by unfold State.answer; split <;> simp
@[simp] theorem State.answer_injected (s : State) (f : ControlFrame) (echo : Byte) (a : Answer) :
    (s.answer f echo a).injected = s.injected := by unfold State.answer; split <;> simp
@[simp] theorem State.answer_pending (s : State) (f : ControlFrame) (echo : Byte) (a : Answer) :
    (s.answer f echo a).pending = s.pending := by unfold State.answer; split <;> simp

@[simp] theorem State.sendReply_commands (s : State) (r : Frame) :
    (s.sendReply r).agent.commands = s.agent.commands := by unfold State.sendReply; split <;> rfl
@[simp] theorem State.answer_commands (s : State) (f : ControlFrame) (echo : Byte) (a : Answer) :
    (s.answer f echo a).agent.commands = s.agent.commands := by unfold State.answer; split <;> simp
@[simp] theorem State.sendReply_overruns (s : State) (r : Frame) :
    (s.sendReply r).agent.overruns = s.agent.overruns := by unfold State.sendReply; split <;> rfl
@[simp] theorem State.answer_overruns (s : State) (f : ControlFrame) (echo : Byte) (a : Answer) :
    (s.answer f echo a).agent.overruns = s.agent.overruns := by unfold State.answer; split <;> simp

/-! ## The execution of a command -/

theorem State.ready_eq_some {s : State} {f : ControlFrame} {rest : List ControlFrame} :
    s.ready = some (f, rest) ↔ s.inReset = false ∧ s.agent.waiting = none ∧ s.agent.commands = f :: rest := by
  unfold State.ready
  cases s.inReset <;> cases s.agent.waiting <;> cases s.agent.commands <;> simp

/-- The execution of a command row: nothing happens when the agent has no such frame to execute; otherwise the action runs on
the state without the frame, and its answer is sent. -/
theorem runCommand_cases (row : Instr) (act : List Word → State → Answer × State) (s : State) :
    runCommand row act s = .next s
      ∨ ∃ f rest, s.ready = some (f, rest) ∧ f.row = row ∧
          runCommand row act s =
            .next ((act f.args (s.dequeue rest)).2.answer f f.topByte (act f.args (s.dequeue rest)).1) := by
  unfold runCommand
  cases h : s.ready with
  | none => exact .inl rfl
  | some p =>
    obtain ⟨f, rest⟩ := p
    by_cases hr : f.row = row
    · exact .inr ⟨f, rest, rfl, hr, by simp [hr]⟩
    · exact .inl (by simp [hr])

/-- A frame of this row at the head of the queue is executed. -/
theorem runCommand_of_ready {row : Instr} {act : List Word → State → Answer × State} {s : State} {f : ControlFrame}
    {rest : List ControlFrame} (hr : s.ready = some (f, rest)) (hf : f.row = row) :
    runCommand row act s =
      .next ((act f.args (s.dequeue rest)).2.answer f f.topByte (act f.args (s.dequeue rest)).1) := by
  simp [runCommand, hr, hf]

/-- A frame that passes R166's orders 1 and 2 has the row of its code. -/
theorem ControlFrame.row_of_code {f : ControlFrame} {code : Byte} (hb : f.badBody = false) (hc : f.topByte = code) :
    f.row = rowOfCode code.toNat := by
  simp [ControlFrame.row, hb, hc]

/-- The waiting reply enters the queue when there is one and a place for it; nothing else changes (R167). -/
theorem enterWaiting_cases (s : State) :
    (∃ r, s.agent.waiting = some r ∧ s.agent.outbound.length < Config.outboundCapacity ∧
        enterWaiting s = { s with agent := { s.agent with outbound := s.agent.outbound ++ [r], waiting := none } })
      ∨ ((s.agent.waiting = none ∨ Config.outboundCapacity ≤ s.agent.outbound.length) ∧ enterWaiting s = s) := by
  unfold enterWaiting
  cases h : s.agent.waiting with
  | none => exact .inr ⟨.inl rfl, rfl⟩
  | some r =>
    by_cases hl : s.agent.outbound.length < Config.outboundCapacity
    · exact .inl ⟨r, rfl, hl, by simp [hl, State.setAgent]⟩
    · exact .inr ⟨.inr (by omega), by simp [hl]⟩

/-! ## Use counts -/

theorem Store.use_user (st : Store) (p q : Fin 32) (f : Nat → Nat) :
    (st.use (.user p) f).patterns[q] =
      if p = q then { st.patterns[p] with uses := f st.patterns[p].uses } else st.patterns[q] :=
  tableModify_getElem _ _ _ _

@[simp] theorem Store.use_prbs (st : Store) (p : Prbs) (f : Nat → Nat) : st.use (.prbs p) f = st := rfl
@[simp] theorem Store.use_fixed (st : Store) (w : Word) (f : Nat → Nat) : st.use (.fixed w) f = st := rfl

/-- A use count's change leaves segments, words and the clear machine alone. -/
theorem Store.use_frame (st : Store) (k : PatternKind) (f : Nat → Nat) :
    st.use k f = { st with patterns := (st.use k f).patterns } := by
  cases k <;> rfl

end Sys2Proof.Machine
end

