-- ==== Sys2Proof/Laws/Executing.lean ====
section
/-! SUPPORT. What the execution of a control frame comes down to: the command's action on the frame's argument words. -/

namespace Sys2Proof.Machine

variable {s : State} {code : Byte} {f : ControlFrame} {rest : List ControlFrame}

/-- A frame of a command's code is of that command's row. -/
theorem Executing.row (h : Executing s code f rest) : f.row = rowOfCode code.toNat :=
  ControlFrame.row_of_code h.2.1 h.2.2

/-- The execution of a frame of this row's code is the row's action and its reply. -/
theorem Executing.run (h : Executing s code f rest) (row : Instr) (hrow : rowOfCode code.toNat = row)
    (act : List Word → State → Answer × State) :
    runCommand row act s =
      .next ((act f.args (s.dequeue rest)).2.replied f (act f.args (s.dequeue rest)).1) :=
  runCommand_of_ready h.1 (h.row.trans hrow)

/-- While the agent can execute a frame no reset holds the part. -/
theorem Executing.inReset (h : Executing s code f rest) : s.inReset = false := (State.ready_eq_some.mp h.1).1

end Sys2Proof.Machine
end

