-- ==== Sys2Proof/Laws/Gates.lean ====
section
/-! SUPPORT. Who the members of a gate are, and what an offer to the ring leaves alone. -/

namespace Sys2Proof.Machine

/-- A member's gate field is the gate and its checker is active (R6). -/
theorem mem_members {s : State} {g : Fin 4} {i : Fin 256} :
    i ∈ members s g ↔ (s.stream i).config.gate = g ∧ (s.stream i).chk.sync ≠ .off := by
  simp [members, Stream.memberOf, Checker.active, State.stream]

/-- The members stand in increasing stream index (R139). -/
theorem members_increasing (s : State) (g : Fin 4) : (members s g).Pairwise (· < ·) := tableWhere_increasing _ _

/-- The gate of a stream is open for it when it is OPEN (R112). -/
theorem State.gateOpenFor_eq (s : State) (r : Stream) :
    s.gateOpenFor r = decide ((s.gate r.config.gate).state = .opened) := by
  unfold State.gateOpenFor
  cases (s.gate r.config.gate).state <;> rfl

variable (s : State) (batch : List Record)

/-- An offer changes the ring, and then only what RING_HIGH and RING_LOSS change (R148, R149). -/
theorem offer_induction {P : State → Prop} (ring : P (s.setRing (s.ring.take batch)))
    (raised : ∀ t k d1 d2, P t → P (t.raiseDevice k d1 d2)) : P (offer s batch) := by
  unfold offer
  simp only []
  split_ifs <;> first | exact ring | exact raised _ _ _ _ (raised _ _ _ _ ring) | exact raised _ _ _ _ ring

@[simp] theorem offer_streams : (offer s batch).streams = s.streams :=
  offer_induction s batch (P := fun t => t.streams = s.streams) rfl (fun _ _ _ _ h => by simpa using h)
@[simp] theorem offer_gates : (offer s batch).gates = s.gates :=
  offer_induction s batch (P := fun t => t.gates = s.gates) rfl (fun _ _ _ _ h => by simpa using h)
@[simp] theorem offer_lanes : (offer s batch).lanes = s.lanes :=
  offer_induction s batch (P := fun t => t.lanes = s.lanes) rfl (fun _ _ _ _ h => by simpa using h)
@[simp] theorem offer_store : (offer s batch).store = s.store :=
  offer_induction s batch (P := fun t => t.store = s.store) rfl (fun _ _ _ _ h => by simpa using h)
@[simp] theorem offer_ring : (offer s batch).ring = s.ring.take batch :=
  offer_induction s batch (P := fun t => t.ring = s.ring.take batch) rfl (fun _ _ _ _ h => by simpa using h)
@[simp] theorem offer_pulses : (offer s batch).pulses = s.pulses :=
  offer_induction s batch (P := fun t => t.pulses = s.pulses) rfl (fun _ _ _ _ h => by simpa using h)
@[simp] theorem offer_pending : (offer s batch).pending = s.pending :=
  offer_induction s batch (P := fun t => t.pending = s.pending) rfl (fun _ _ _ _ h => by simpa using h)

end Sys2Proof.Machine
end

