-- ==== Sys2Proof/Laws/Memory.lean ====
section
/-! SUPPORT. The laws of the store's words: what a read finds after a write, and that every operation keeps the one
canonical form. -/

namespace Sys2Proof.Machine

/-! ## The canonical form, entry by entry -/

theorem Memory.wf_cons {a : Nat} {v : Word} {t : Memory} :
    Memory.wf ((a, v) :: t) = true ↔
      a < Config.storeWords ∧ v ≠ 0 ∧ (∀ c ∈ t, a < c.1) ∧ Memory.wf t = true := by
  induction t generalizing a v with
  | nil => simp [Memory.wf]
  | cons c t ih =>
    obtain ⟨b, w⟩ := c
    simp only [Memory.wf, Bool.and_eq_true, decide_eq_true_eq, bne_iff_ne, List.mem_cons, forall_eq_or_imp]
    constructor
    · rintro ⟨⟨hab, hv⟩, h⟩
      obtain ⟨hb, -, hall, -⟩ := ih.mp h
      exact ⟨by omega, hv, ⟨hab, fun c hc => by have := hall c hc; omega⟩, h⟩
    · rintro ⟨-, hv, ⟨hab, -⟩, h⟩
      exact ⟨⟨hab, hv⟩, h⟩

theorem Memory.wf_nil : Memory.wf [] = true := rfl

/-! ## Writing one word -/

theorem Memory.mem_write {m : Memory} {a : Nat} {w : Word} {c : Nat × Word} (h : c ∈ m.write a w) :
    c ∈ m ∨ c = (a, w) := by
  induction m with
  | nil =>
    by_cases hw : w = 0 <;> simp_all [Memory.write]
  | cons d t ih =>
    obtain ⟨b, v⟩ := d
    simp only [Memory.write] at h
    split at h
    · split at h <;> simp_all
      tauto
    · split at h
      · split at h <;> simp_all
        tauto
      · simp only [List.mem_cons] at h ⊢
        rcases h with h | h
        · exact .inl (.inl h)
        · rcases ih h with h | h
          · exact .inl (.inr h)
          · exact .inr h

/-- A write keeps the canonical form. -/
theorem Memory.write_wf {m : Memory} {a : Nat} {w : Word} (ha : a < Config.storeWords) (h : m.wf = true) :
    (m.write a w).wf = true := by
  induction m with
  | nil =>
    simp only [Memory.write]
    split
    · rfl
    · rename_i hw
      exact Memory.wf_cons.mpr ⟨ha, hw, by simp, rfl⟩
  | cons d t ih =>
    obtain ⟨b, v⟩ := d
    obtain ⟨hb, hv, hall, ht⟩ := Memory.wf_cons.mp h
    simp only [Memory.write]
    split
    · split
      · exact h
      · rename_i hab hw
        refine Memory.wf_cons.mpr ⟨ha, hw, ?_, h⟩
        intro c hc
        rcases List.mem_cons.mp hc with rfl | hc
        · exact hab
        · have := hall c hc; omega
    · split
      · rename_i hba hab
        subst hab
        split
        · exact ht
        · rename_i hw
          exact Memory.wf_cons.mpr ⟨ha, hw, hall, ht⟩
      · rename_i hba hab
        refine Memory.wf_cons.mpr ⟨hb, hv, ?_, ih ht⟩
        intro c hc
        rcases Memory.mem_write hc with hc | rfl
        · exact hall c hc
        · show b < a; omega

theorem Memory.read_eq_zero {m : Memory} {a : Nat} (h : ∀ c ∈ m, a < c.1) : m.read a = 0 := by
  induction m with
  | nil => rfl
  | cons d t ih =>
    obtain ⟨b, v⟩ := d
    have hb : a < b := h (b, v) (by simp)
    simp only [Memory.read]
    rw [if_neg (by omega)]
    exact ih fun c hc => h c (by simp [hc])

/-- The word written is the word read, and no other word changes. -/
theorem Memory.read_write {m : Memory} {a b : Nat} {w : Word} (h : m.wf = true) :
    (m.write a w).read b = if b = a then w else m.read b := by
  induction m with
  | nil =>
    simp only [Memory.write]
    split
    · rename_i hw
      subst hw
      simp [Memory.read]
    · simp [Memory.read]
  | cons d t ih =>
    obtain ⟨k, v⟩ := d
    obtain ⟨hk, hv, hall, ht⟩ := Memory.wf_cons.mp h
    have hlow : ∀ x, x ≤ k → Memory.read t x = 0 := fun x hx =>
      Memory.read_eq_zero fun c hc => by have := hall c hc; omega
    simp only [Memory.write]
    split
    · rename_i hak
      split
      · rename_i hw
        subst hw
        by_cases hb : b = a
        · subst hb
          simp only [Memory.read, if_neg (show b ≠ k by omega), if_pos, hlow b (by omega)]
        · simp [hb]
      · by_cases hb : b = a <;> simp [Memory.read, hb]
    · split
      · rename_i hka hak
        subst hak
        split
        · rename_i hw
          subst hw
          by_cases hb : b = a
          · subst hb
            simp only [if_pos, hlow b (by omega)]
          · simp [Memory.read, hb]
        · by_cases hb : b = a <;> simp [Memory.read, hb]
      · rename_i hka hak
        simp only [Memory.read, ih ht]
        by_cases hb : b = k
        · subst hb; simp; omega
        · simp [hb]

/-! ## Writing a run of words -/

/-- A run of writes inside the store keeps the canonical form. -/
theorem Memory.writeAll_wf {ws : List Word} {m : Memory} {a : Nat} (ha : a + ws.length ≤ Config.storeWords)
    (h : m.wf = true) : (m.writeAll a ws).wf = true := by
  induction ws generalizing m a with
  | nil => exact h
  | cons w ws ih =>
    simp only [List.length_cons] at ha
    exact ih (by omega) (Memory.write_wf (by omega) h)

/-- A run of writes: the words land at `a` and onward, and no other word changes. -/
theorem Memory.read_writeAll {ws : List Word} {m : Memory} {a b : Nat} (ha : a + ws.length ≤ Config.storeWords)
    (h : m.wf = true) :
    (m.writeAll a ws).read b = if a ≤ b ∧ b < a + ws.length then ws.getD (b - a) 0 else m.read b := by
  induction ws generalizing m a with
  | nil =>
    rw [if_neg (by simp only [List.length_nil]; omega)]
    rfl
  | cons w ws ih =>
    simp only [List.length_cons] at ha
    simp only [Memory.writeAll]
    rw [ih (by omega) (Memory.write_wf (by omega) h), Memory.read_write h]
    simp only [List.length_cons]
    by_cases h1 : b = a
    · subst h1
      rw [if_neg (by omega), if_pos rfl, if_pos (by omega)]
      simp
    · rw [if_neg h1]
      by_cases h2 : a + 1 ≤ b ∧ b < a + 1 + ws.length
      · rw [if_pos h2, if_pos (by omega)]
        obtain ⟨k, hk⟩ : ∃ k, b - a = k + 1 := ⟨b - a - 1, by omega⟩
        rw [hk, show b - (a + 1) = k by omega]
        simp
      · rw [if_neg h2, if_neg (by omega)]

/-! ## Clearing a segment -/

theorem Memory.filter_wf {m : Memory} (p : Nat × Word → Bool) (h : m.wf = true) : Memory.wf (m.filter p) = true := by
  induction m with
  | nil => rfl
  | cons d t ih =>
    obtain ⟨a, v⟩ := d
    obtain ⟨ha, hv, hall, ht⟩ := Memory.wf_cons.mp h
    rw [List.filter_cons]
    split
    · exact Memory.wf_cons.mpr ⟨ha, hv, fun c hc => hall c (List.mem_filter.mp hc).1, ih ht⟩
    · exact ih ht

/-- A clear keeps the canonical form. -/
theorem Memory.clearSegment_wf {m : Memory} (seg : Nat) (h : m.wf = true) : (m.clearSegment seg).wf = true :=
  Memory.filter_wf _ h

/-- A cleared segment reads zero, and no word outside it changes. -/
theorem Memory.read_clearSegment {m : Memory} (seg a : Nat) :
    (m.clearSegment seg).read a = if a / Config.segmentWords = seg then 0 else m.read a := by
  induction m with
  | nil => simp [Memory.clearSegment, Memory.read]
  | cons d t ih =>
    obtain ⟨b, v⟩ := d
    simp only [Memory.clearSegment, List.filter_cons] at ih ⊢
    by_cases hb : b / Config.segmentWords = seg
    · simp only [hb, bne_self_eq_false, Bool.false_eq_true, if_false, ih, Memory.read]
      by_cases ha : a = b
      · subst ha; simp [hb]
      · simp [ha]
    · have : (b / Config.segmentWords != seg) = true := by simpa using hb
      simp only [this, if_true, Memory.read, ih]
      by_cases ha : a = b
      · subst ha; simp [hb]
      · simp [ha]

end Sys2Proof.Machine
end

