-- ==== Sys2Proof/Laws/Patterns.lean ====
section
/-! SUPPORT. What the Pattern Engine's shift registers and words come down to. -/

namespace Sys2Proof.Machine

/-- `m` steps of a register: the output bits, first bit highest, below the word they were shifted into; and the register. -/
theorem Prbs.run_spec (p : Prbs) (m : Nat) (acc st : Word) (hm : m ≤ 32) :
    (∀ i, i < m → (p.run m acc st).1.getLsbD (m - 1 - i) = p.nextBit (p.leap i st))
      ∧ (∀ j, m ≤ j → j < 32 → (p.run m acc st).1.getLsbD j = acc.getLsbD (j - m))
      ∧ (p.run m acc st).2 = p.leap m st := by
  induction m generalizing acc st with
  | zero => exact ⟨by simp, fun j _ _ => by simp [Prbs.run], rfl⟩
  | succ m ih =>
    obtain ⟨out, above, state⟩ := ih ((acc <<< 1) ||| (BitVec.ofBool (p.nextBit st)).setWidth 32) (p.step st) (by omega)
    refine ⟨?_, ?_, state⟩
    · intro i hi
      cases i with
      | zero =>
        simp only [Prbs.run, Prbs.leap]
        rw [above _ (by omega) (by omega)]
        simp
      | succ i =>
        simp only [Prbs.run, Prbs.leap]
        rw [← out i (by omega)]
        congr 1
        omega
    · intro j hj hj'
      simp only [Prbs.run]
      rw [above j (by omega) hj']
      have ne : j - m ≠ 0 := by omega
      have lt : j - m < 32 := by omega
      have pred : j - m - 1 = j - (m + 1) := by omega
      simp [ne, lt, pred, BitVec.getLsbD_eq_getElem (x := acc) (show j - (m + 1) < 32 by omega)]

/-- A register's leap is one step after another. -/
theorem Prbs.leap_succ (p : Prbs) (m : Nat) (st : Word) : p.leap (m + 1) st = p.step (p.leap m st) := by
  induction m generalizing st with
  | zero => rfl
  | succ m ih => exact ih (p.step st)

theorem Prbs.leap_add (p : Prbs) (a b : Nat) (st : Word) : p.leap (a + b) st = p.leap b (p.leap a st) := by
  induction a generalizing st with
  | zero => simp [Prbs.leap]
  | succ a ih => rw [Nat.add_right_comm]; exact ih (p.step st)

/-! ## The form READ_STREAM gives a pattern state (R55) -/

@[simp] theorem patternView_prbs (p : Prbs) (st : Word) : patternView (.prbs p) st = st &&& p.ones := rfl
@[simp] theorem patternView_fixed (w st : Word) : patternView (.fixed w) st = 0 := rfl
@[simp] theorem patternView_user (p : Fin 32) (st : Word) : patternView (.user p) st = st := rfl

/-- A register's step leaves zeros above bit n − 1, so its view is the register itself. -/
theorem patternView_step (p : Prbs) (st : Word) : patternView (.prbs p) (p.step st) = p.step st := by
  simp [Prbs.step, BitVec.and_assoc]

/-! ## Words of a frame -/

variable (s : Store) (kind : PatternKind) (invert : Bool)

@[simp] theorem takeWords_length (n : Nat) (st : Word) : (takeWords s kind invert n st).1.length = n := by
  induction n generalizing st with
  | zero => rfl
  | succ n ih => simp [takeWords, ih]

@[simp] theorem compareWords_length (ws : List Word) (st : Word) :
    (compareWords s kind invert ws st).1.length = ws.length := by
  induction ws generalizing st with
  | nil => rfl
  | cons w ws ih => simp [compareWords, ih]

end Sys2Proof.Machine
end

