-- ==== Sys2Proof/Tests/Slice0.lean ====
section
/-! SUPPORT. Tests on concrete values: the well-formedness checks, the spec's worked values, the replies of every management
command at the ends of its ranges, and for every statement with hypotheses a state and operands that meet them. -/

namespace Sys2Proof.Tests

open Sys2Proof.Machine

set_option Elab.async false

/-! ## Well-formedness: a site named twice is refused -/

theorem test_t1ms_twice : (Instr.t1ms [.gate 1, .checker 1, .gate 1]).wellFormed = false := by decide
theorem test_t10ms_twice : (Instr.t10ms [2, 2]).wellFormed = false := by decide
theorem test_t100ms_twice : (Instr.t100ms [3, 0, 3]).wellFormed = false := by decide
theorem test_t1s_twice : (Instr.t1s [0, 0]).wellFormed = false := by decide
theorem test_syncIn_twice : (Instr.syncIn [1, 2, 1]).wellFormed = false := by decide
theorem test_orders_once :
    (Instr.t1ms [.gate 1, .checker 1]).wellFormed ∧ (Instr.t10ms [3, 1]).wellFormed ∧ (Instr.t100ms []).wellFormed
      ∧ (Instr.t1s [0]).wellFormed ∧ (Instr.syncIn [1, 0, 2, 3]).wellFormed := by decide

/-! ## A small part to test on -/

/-- A control frame for the part itself. -/
def frameOf (code : Byte) (args : List Word) : ControlFrame :=
  ⟨false, buildFrame 2 0 0x42 0 0 ((code ++ 0#24 : BitVec 32) :: args)⟩

/-- The part with one control frame waiting. -/
def queued (s : State) (code : Byte) (args : List Word) : State :=
  { s with agent := { s.agent with commands := [frameOf code args] } }

/-- The state an outcome goes on in. -/
def next (r : Result) : State :=
  match r with
  | .next t => t
  | .fault _ => State.reset
  | .refused _ => State.reset

/-- The part after one command. -/
def after (s : State) (code : Byte) (args : List Word) : State := next (exec (rowOfCode code.toNat) (queued s code args))

/-- The body words of the reply to one command. -/
def reply (s : State) (code : Byte) (args : List Word) : List Word :=
  ((after s code args).agent.outbound.getLast?.map (fun o => o.bytes.words)).getD []

/-- The status code of the reply. -/
def status (s : State) (code : Byte) (args : List Word) : Nat := ((reply s code args).headD 0 >>> 16).toNat % 256

/-- The result words of the reply. -/
def results (s : State) (code : Byte) (args : List Word) : List Word := (reply s code args).tail

/-- A FIXED configuration of 4 words on these lanes. -/
def cfg (eg ing : Fin 16) : StreamConfig :=
  { StreamConfig.reset with egressLane := eg, ingressLane := ing, kind := .fixed 0xF, payloadLen := 4 }

/-- Streams 5 (RUNNING, LOCKED), 6 (idle), 7 (USER pattern 1), 8 (HELD, requests pending, VERIFY), 9 (PRBS7) and 200 (STALE);
a lane in each egress mode; a segment in each state; patterns, gates, records and events of every sort. -/
def bench : State :=
  { State.reset with
    streams := ((((((State.reset.streams.set 5
      { Stream.reset with
        configured := true
        config := cfg 0 0
        gen := { Generator.reset with state := .running, countdown := 1, interval := 2, injCountdown := 1, ditherMask := 5 }
        chk := { Checker.reset with sync := .locked, expected := 9, silence := 99 }
        events := 2 }).set 6 { Stream.reset with configured := true, config := cfg 1 1 }).set 7
      { Stream.reset with configured := true, config := { cfg 0 0 with kind := .user 1 } }).set 8
      { Stream.reset with
        configured := true
        config := { cfg 1 2 with kind := .user 3, silenceTimeout := 7 }
        gen := { Generator.reset with state := .held, countdown := 16, single := true, burst := 3 }
        chk := { Checker.reset with sync := .verify, progress := 1, silence := 6 } }).set 9
      { Stream.reset with
        configured := true
        config := { cfg 2 2 with kind := .prbs .prbs7 }
        gen := { Generator.reset with state := .running, countdown := 3, due := true, pat := 0x7F } }).set 200
      { Stream.reset with
        configured := true
        config := { cfg 0 2 with gate := 1 }
        chk := { Checker.reset with sync := .stale } })
    lanes := ((State.reset.lanes.set 0 { Lane.reset with egress := .mixed, ingress := .tap }).set 1
        { Lane.reset with egressBuf := [[1]], ingressBuf := [[2]] }).set 2
      { Lane.reset with egress := .test, ingress := .check }
    store :=
      { Store.reset with
        segs := ((((State.reset.store.segs.set 0 { state := .full, fill := 256 }).set 1
          { state := .partly, fill := 200 }).set 2 { state := .blank, fill := 0 }).set 3
          { state := .clearing, fill := 0 }).set 4 { state := .clearQueued, fill := 0 }
        mem := [(0, 7), (256, 9)]
        clearing := some 3
        clearQueue := [4]
        patterns := ((State.reset.store.patterns.set 0 { Pattern.reset with ready := true, len := 300 }).set 2
          { ready := true, first := 0, len := 1, frozen := true, uses := 0 }).set 3
          { ready := true, first := 1, len := 200, frozen := false, uses := 2 } }
    gates := ((State.reset.gates.set 0 { Gate.reset with state := .opened, length := 2, count := 1, marks := true }).set 1
      { Gate.reset with state := .armed, source := .chain }).set 3 { Gate.reset with state := .armed, qualifier := .syncEdge }
    ring :=
      { Ring.reset with
        records :=
          [{ stream := 5, gate := 0, endState := .locked, partialEnd := true, lateStart := false, unlockedSeen := true,
             staleSeen := false, number := 3, counts := { Interval.zero with bits := 0x100000002, bursts := 4 } }]
        appended := 1 }
    events := { EventUnit.reset with device := 0x100, listed := [5] } }

/-! ## The spec's worked values -/

/-- R24: CRC-8 of the nine bytes 31h to 39h. -/
theorem test_crc : crc8 [0x31, 0x32, 0x33, 0x34, 0x35, 0x36, 0x37, 0x38, 0x39] = 0xF4 := by decide +kernel

/-- The worked PRBS7 word of spec/04_pattern_sources.md, and the register after it. -/
theorem test_prbs7 : Prbs.prbs7.run 32 0 Prbs.prbs7.ones = (0x020C28F2, 0x72) := by decide +kernel

/-- R27: a body of one byte leaves its first byte or 0 as the code echo (log 13); four bytes leave the first. -/
theorem test_short_body_echo :
    (ControlFrame.badBodyEcho ⟨false, (buildFrame 2 0 0 0 0 [0x51000000]).take 15⟩ = 0x51
        ∨ ControlFrame.badBodyEcho ⟨false, (buildFrame 2 0 0 0 0 [0x51000000]).take 15⟩ = 0)
      ∧ ControlFrame.badBodyEcho ⟨false, (buildFrame 2 0 0 0 0 [0x51000000, 1]).take 18⟩ = 0x51 := by
  unfold ControlFrame.badBodyEcho
  cases Config.partialWordEcho <;> decide +kernel

/-! ## The agent's own commands and the Stream Table -/

theorem test_identify : results bench 0x01 [] = [0x41A7, 0x0E16, 2, 4, 0, 256, 64, 32, 1024, 0] := by decide +kernel

theorem test_echo : reply bench 0x02 [7, 8] = [0x02000002, 7, 8] ∧ reply bench 0x02 [] = [0x02000000] := by decide +kernel

/-- The lanes, words and ready patterns an engine reset keeps and what it does not (R54, R85, R171). -/
theorem test_resetEngine :
    let t := after bench 0x03 []
    reply bench 0x03 [] = [0x03000000] ∧ (t.lane 1).egressBuf = [[1]] ∧ (t.lane 0).egress = .client
      ∧ (t.store.seg 0).state = .full ∧ (t.store.seg 3).state = .faulted ∧ (t.store.pattern 3).uses = 0
      ∧ (t.store.pattern 2).frozen = true ∧ t.ring.records = [] ∧ (t.gate 0).state = .idle := by decide +kernel

theorem test_unknown : reply bench 0x7F [] = [0x7F020000] ∧ status bench 0x01 [1] = 3 := by decide +kernel

/-- SET_STREAM at the ends of its ranges, and each check in turn (R17). -/
theorem test_setStream :
    status bench 0x10 [255, 3, 3, 7, 1, 9, 31, 255, 4095, 3, 15, 15, 15, 8160, 16777215, 65535] = 0
      ∧ status bench 0x10 [0, 0, 0, 0, 0, 0, 99, 4, 1, 0, 0, 1, 1, 1, 1, 0] = 0
      ∧ status bench 0x10 [256, 0, 0, 0, 0, 0, 0, 4, 1, 0, 0, 1, 1, 1, 1, 0] = 4
      ∧ status bench 0x10 [5, 0, 0, 0, 0, 0, 0, 4, 1, 0, 0, 1, 1, 1, 1, 0] = 7
      ∧ status bench 0x10 [0, 16, 0, 0, 0, 0, 0, 4, 1, 0, 0, 1, 1, 1, 1, 0] = 4
      ∧ status bench 0x10 [0, 0, 4, 0, 0, 0, 0, 4, 1, 0, 0, 1, 1, 1, 1, 0] = 5
      ∧ status bench 0x10 [0, 0, 0, 8, 0, 0, 0, 4, 1, 0, 0, 1, 1, 1, 1, 0] = 4
      ∧ status bench 0x10 [0, 0, 0, 7, 0, 0, 32, 4, 1, 0, 0, 1, 1, 1, 1, 0] = 4
      ∧ status bench 0x10 [0, 0, 0, 0, 0, 0, 0, 3, 1, 0, 0, 1, 1, 1, 1, 0] = 4
      ∧ status bench 0x10 [0, 0, 0, 0, 0, 0, 0, 4, 1, 0, 0, 1, 1, 1, 1, 65536] = 4 := by decide +kernel

/-- What SET_STREAM wrote is what READ_STREAM reads (R19). -/
theorem test_readStream :
    (results (after bench 0x10 [9, 2, 1, 6, 1, 77, 3, 4, 1, 2, 15, 1, 2, 3, 4, 5]) 0x11 [9]).length = 84
      ∧ (results (after bench 0x10 [6, 2, 1, 6, 1, 77, 3, 4, 1, 2, 15, 1, 2, 3, 4, 5]) 0x11 [6]).take 20
        = [6, 2, 1, 6, 1, 77, 0, 4, 1, 2, 15, 1, 2, 3, 4, 5, 1, 0, 0, 0]
      ∧ status bench 0x11 [255] = 0 ∧ status bench 0x11 [256] = 4 := by decide +kernel

/-- The register a stopped PRBS31 stream stored, read after SET_STREAM gave it each kind (R55, log 19). -/
theorem test_readStream_form :
    let s := (bench.setGen 6 { (bench.stream 6).gen with pat := 0x7FFFFFFF }).setChk 6
      { (bench.stream 6).chk with pat := 0x12345 }
    let read := fun kind : Word =>
      let ws := results (after s 0x10 [6, 2, 1, kind, 0, 77, 3, 4, 1, 2, 15, 1, 2, 3, 4, 5]) 0x11 [6]
      (ws[23]?, ws[35]?)
    read 0 = (some 0x7F, some 0x45) ∧ read 5 = (some 0x7FFFFFFF, some 0x12345) ∧ read 6 = (some 0, some 0)
      ∧ read 7 = (some 0x7FFFFFFF, some 0x12345) := by decide +kernel

theorem test_clearCounts : status bench 0x12 [255] = 0 ∧ status bench 0x12 [256] = 4 ∧ status bench 0x12 [] = 3 := by
  decide +kernel

/-- SET_WINDOW: an aligned base, no size but the four, and a window in use (R36). -/
theorem test_setWindow :
    results State.reset 0x2A [65535, 32] = [65504, 32] ∧ status bench 0x2A [65536, 32] = 4 ∧ status bench 0x2A [0, 33] = 4
      ∧ status bench 0x2A [0xFF, 256] = 0 ∧ status bench 0x2A [0x100, 256] = 10 ∧ status bench 0x2A [0, 128] = 10 := by
  decide +kernel

/-! ## Generator and Checker commands -/

/-- The part with a window of 32. -/
def narrow : State := { bench with window := { base := 0, size := .s32 } }

theorem test_startGen :
    reply bench 0x18 [6] = [0x18000001, 2] ∧ status bench 0x18 [256] = 4 ∧ status bench 0x18 [0] = 6
      ∧ status bench 0x18 [5] = 7 ∧ status narrow 0x18 [200] = 9 ∧ status bench 0x18 [7] = 11 := by decide +kernel

theorem test_stopGen :
    reply bench 0x19 [5] = [0x19000001, 0] ∧ status bench 0x19 [6] = 8 ∧ status bench 0x19 [256] = 4 := by decide +kernel

theorem test_setInject :
    status bench 0x1A [5, 65535, 15] = 0 ∧ status bench 0x1A [5, 65536, 0] = 4 ∧ status bench 0x1A [5, 0, 16] = 4
      ∧ status bench 0x1A [0, 0, 0] = 6 := by decide +kernel

theorem test_injectOne :
    status bench 0x1B [5] = 0 ∧ status bench 0x1B [6] = 8 ∧ status bench 0x1B [8] = 20 ∧ status bench 0x1B [256] = 4 := by
  decide +kernel

theorem test_injectBurst :
    status bench 0x1C [5, 1] = 0 ∧ status bench 0x1C [5, 255] = 0 ∧ status bench 0x1C [5, 0] = 4
      ∧ status bench 0x1C [5, 256] = 4 ∧ status bench 0x1C [6, 1] = 8 ∧ status bench 0x1C [8, 1] = 20 := by decide +kernel

theorem test_startChk :
    reply bench 0x20 [6] = [0x20000001, 1] ∧ status bench 0x20 [0] = 6 ∧ status bench 0x20 [5] = 7
      ∧ status bench 0x20 [7] = 11 ∧ ((after bench 0x20 [6]).stream 6).chk.sync = .hunt := by decide +kernel

theorem test_stopChk : reply bench 0x21 [5] = [0x21000001, 3] ∧ status bench 0x21 [6] = 8 ∧ status bench 0x21 [256] = 4 := by
  decide +kernel

/-- RESTART_CHK from STALE costs a resync and raises LOCK_LOST; from VERIFY it does neither (R108). -/
theorem test_restartChk :
    reply bench 0x22 [200] = [0x22000001, 4] ∧ ((after bench 0x22 [200]).stream 200).chk.cum.resyncs = 1
      ∧ ((after bench 0x22 [200]).stream 200).events = 4 ∧ ((after bench 0x22 [8]).stream 8).chk.cum.resyncs = 0
      ∧ ((after bench 0x22 [8]).stream 8).events = 0 ∧ status bench 0x22 [6] = 8 := by decide +kernel

/-! ## Lanes and the Pattern Store -/

/-- SET_LANE: lane 1 to TEST discards its buffered frame and lets stream 8 run (R51). -/
theorem test_setLane :
    status bench 0x28 [3, 2, 2] = 0 ∧ status bench 0x28 [16, 0, 0] = 4 ∧ status bench 0x28 [4, 0, 0] = 5
      ∧ status bench 0x28 [0, 3, 0] = 4 ∧ ((after bench 0x28 [1, 2, 0]).lane 1).egressBuf = []
      ∧ ((after bench 0x28 [1, 2, 0]).lane 1).counters.displaced = 1
      ∧ ((after bench 0x28 [1, 2, 0]).stream 8).gen.state = .running := by decide +kernel

theorem test_readLane :
    results bench 0x29 [1, 0] = [0, 0, 1, 1, 255, 0, 0, 0, 0, 0, 0, 0, 0, 0, 0] ∧ status bench 0x29 [3, 1] = 0
      ∧ status bench 0x29 [3, 2] = 4 ∧ status bench 0x29 [4, 0] = 5 := by decide +kernel

theorem test_loadWords :
    reply bench 0x30 (1 :: List.replicate 56 3) = [0x30000001, 256] ∧ status bench 0x30 (1 :: List.replicate 57 3) = 16
      ∧ status bench 0x30 [64, 1] = 4 ∧ status bench 0x30 [3, 1] = 15 ∧ status bench 0x30 [5, 1] = 23
      ∧ status bench 0x30 [1] = 3 ∧ status bench 0x30 (2 :: List.replicate 65 3) = 3
      ∧ (after bench 0x30 [1, 4]).store.mem = [(0, 7), (256, 9), (456, 4)] := by decide +kernel

theorem test_readSegment :
    results bench 0x31 [1, 0, 2] = [1, 200, 9, 0] ∧ results bench 0x31 [1, 199, 64] = [1, 200, 0]
      ∧ status bench 0x31 [1, 200, 1] = 4 ∧ results bench 0x31 [2, 0, 1] = [0, 0] ∧ results bench 0x31 [63, 255, 64] = [5, 0]
      ∧ status bench 0x31 [4, 0, 1] = 15 ∧ status bench 0x31 [0, 256, 1] = 4 ∧ status bench 0x31 [0, 0, 65] = 4 := by
  decide +kernel

/-- CLEAR_SEGMENT's checks, and a queued clear's STARTED (R72, R73). -/
theorem test_clearSegment :
    reply bench 0x32 [2] = [0x32010001, 0] ∧ (after bench 0x32 [2]).store.clearQueue = [4, 2]
      ∧ status bench 0x32 [3] = 17 ∧ status bench 0x32 [0] = 14 ∧ status bench 0x32 [1] = 13 ∧ status bench 0x32 [64] = 4
      ∧ status { bench with store := { bench.store with clearQueue := [4, 5, 6, 7] } } 0x32 [2] = 18 := by decide +kernel

/-- The part while a wipe runs, and with no pattern in use. -/
def wiping : State := { bench with store := { bench.store with mode := .wiping } }
def unused : State := { bench with store := bench.store.setPattern 3 { bench.store.pattern 3 with uses := 0 } }

theorem test_wipeStore :
    reply unused 0x33 [] = [0x33010001, 13] ∧ status bench 0x33 [] = 13 ∧ status wiping 0x33 [] = 19 := by decide +kernel

theorem test_definePattern :
    status bench 0x34 [31, 0, 456] = 0 ∧ status bench 0x34 [31, 0, 457] = 12 ∧ status bench 0x34 [31, 63, 257] = 12
      ∧ status bench 0x34 [2, 0, 1] = 14 ∧ status bench 0x34 [3, 0, 1] = 13 ∧ status wiping 0x34 [1, 0, 1] = 19
      ∧ status bench 0x34 [32, 0, 1] = 4 ∧ status bench 0x34 [1, 0, 16385] = 4 := by decide +kernel

theorem test_undefinePattern :
    status bench 0x35 [0] = 0 ∧ status bench 0x35 [31] = 0 ∧ status bench 0x35 [2] = 14 ∧ status bench 0x35 [3] = 13
      ∧ status bench 0x35 [32] = 4 := by decide +kernel

theorem test_freezePattern : status bench 0x36 [0] = 0 ∧ status bench 0x36 [1] = 11 ∧ status bench 0x36 [32] = 4 := by
  decide +kernel

theorem test_readPattern : results bench 0x37 [0] = [1, 0, 300, 2, 0, 0] ∧ status bench 0x37 [32] = 4 := by decide +kernel

/-! ## Gates, ring, events -/

/-- SET_GATE on an IDLE gate, on an OPEN one (a pending length alone), and its checks (R135). -/
theorem test_setGate :
    results bench 0x40 [2, 4, 65535, 1, 1, 1] = [0, 0] ∧ results bench 0x40 [0, 3, 9, 1, 0, 1] = [2, 9]
      ∧ results bench 0x40 [0, 3, 2, 1, 0, 1] = [2, 0] ∧ status bench 0x40 [0, 2, 9, 1, 0, 1] = 21
      ∧ status bench 0x40 [2, 5, 1, 0, 0, 0] = 4 ∧ status bench 0x40 [4, 0, 1, 0, 0, 0] = 4
      ∧ status bench 0x40 [2, 6, 1, 0, 0, 0] = 4 ∧ status bench 0x40 [2, 0, 0, 0, 0, 0] = 4 := by decide +kernel

theorem test_startGate : status bench 0x41 [2] = 0 ∧ status bench 0x41 [1] = 21 ∧ status bench 0x41 [4] = 4 := by
  decide +kernel

/-- STOP_GATE of an IDLE, an ARMED and an OPEN gate; the partial end offers a record for each of the members (R142). -/
theorem test_stopGate :
    results bench 0x42 [2] = [0] ∧ results bench 0x42 [3] = [1] ∧ results bench 0x42 [0] = [2] ∧ status bench 0x42 [4] = 4
      ∧ ((after bench 0x42 [0]).ring.records.drop 1).map (fun r => (r.stream, r.partialEnd)) = [(5, true), (8, true)] := by
  decide +kernel

theorem test_readGate : results bench 0x43 [0] = [2, 3, 2, 0, 0, 1, 1, 0, 1, 0, 2] ∧ status bench 0x43 [4] = 4 := by
  decide +kernel

/-- FETCH_RESULTS's words of one record (section 2.3, R151). -/
theorem test_fetchResults :
    results bench 0x48 [8] =
        [1, 1, 0x0518000A, 3, 1, 2, 0, 0, 0, 0, 0, 0, 0, 0, 0, 0, 4, 0]
      ∧ status bench 0x48 [0] = 4 ∧ status bench 0x48 [9] = 4 := by decide +kernel

theorem test_releaseResults :
    results bench 0x49 [1] = [0] ∧ status bench 0x49 [2] = 22 ∧ status bench 0x49 [0] = 4 ∧ status bench 0x49 [1025] = 4 := by
  decide +kernel

theorem test_setRing : results bench 0x4A [1024] = [1024] ∧ status bench 0x4A [0] = 4 ∧ status bench 0x4A [1025] = 4 := by
  decide +kernel

theorem test_readRing : results bench 0x4B [] = [1, 1, 0, 768] := by decide +kernel

theorem test_readEvents : results bench 0x50 [] = [0x100, 0, 1, 5, 2] := by decide +kernel

theorem test_ackEvents :
    results bench 0x51 [0xFFFF, 0x7F00] = [0] ∧ results bench 0x51 [5, 2] = [0] ∧ (after bench 0x51 [5, 2]).events.listed = []
      ∧ status bench 0x51 [0xFFFF, 2] = 4 ∧ status bench 0x51 [5, 1] = 4 ∧ status bench 0x51 [256, 0] = 4 := by decide +kernel

theorem test_setEventPolicy :
    results bench 0x52 [1, 0] = [1] ∧ (after bench 0x52 [1, 0]).events.listed = [] ∧ results bench 0x52 [14, 2] = [1]
      ∧ status bench 0x52 [6, 0] = 4 ∧ status bench 0x52 [15, 0] = 4 ∧ status bench 0x52 [1, 3] = 4 := by decide +kernel

/-! ## The hypotheses of the statements are met: the machine, frames and lanes -/

/-- A test frame of stream i with this sequence, offset and payload. -/
def testFrame (i : Nat) (seq : BitVec 16) (offset : Word) (ws : List Word) : Frame :=
  buildFrame 1 0 (BitVec.ofNat 16 i) seq offset ws

def held : State := { bench with inReset := true }

theorem test_hyp_step : bench.pending = [] ∧ bench.ready = none ∧ (queued bench 0x01 []).ready = some (frameOf 0x01 [], []) := by
  decide +kernel

theorem test_hyp_reset : held.inReset = true ∧ bench.inReset = false ∧ Instr.t1s [] ≠ .hardwareReset
    ∧ (∀ a n, Instr.t1s [] ≠ .resetRelease a n) ∧ Instr.t1s [] ≠ .gateOutPulseEnd :=
  ⟨by decide +kernel, by decide +kernel, nofun, nofun, nofun⟩

theorem test_hyp_builtFrames :
    (1 ≤ 4 ∧ 4 ≤ 4 ∧ (List.replicate 255 (1 : Word)).length ≤ 255)
      ∧ (buildFrame 4 63 0xFFFF 0xFFFF 0xFFFFFFFF (List.replicate 255 1)).words = List.replicate 255 1
      ∧ (buildFrame 1 63 0xFFFF 0xFFFF 0xFFFFFFFF []).validHeader = true := by decide +kernel

/-- One frame for each clause of the verdicts: the shortest, a bad check byte, kinds 0 and 5, versions 0 and 2, kinds 1 to 4. -/
theorem test_hyp_verdicts :
    ([0xB7, 0xE3] : Frame).take 2 ≠ [0xB7, 0xE2] ∧ ([0xB7, 0xE2] : Frame).length < 14
      ∧ (let f : Frame := (testFrame 0 0 0 []).set 13 0; f.take 2 = [0xB7, 0xE2] ∧ crc8 (f.take 13) ≠ f.byte 13)
      ∧ (let f : Frame := buildFrame 0 0 0 0 0 []; f.length = 14 ∧ crc8 (f.take 13) = f.byte 13 ∧ (f.byte 2).toNat / 16 = 0)
      ∧ (let f : Frame := buildFrame 5 0 0 0 0 []; crc8 (f.take 13) = f.byte 13 ∧ (f.byte 2).toNat / 16 = 5)
      ∧ classify { base := 0, size := .s256 } (buildFrame 5 0 0 0 0 []) = .headerError
      ∧ classify { base := 0, size := .s256 } (buildFrame 2 0 0 0 0 []) = .management true
      ∧ classify { base := 0, size := .s256 } (buildFrame 3 0 0 0 0 []) = .management false
      ∧ classify { base := 0, size := .s256 } (buildFrame 4 0 0 0 0 []) = .management false
      ∧ classify { base := 32, size := .s32 } (testFrame 31 0 0 []) = .testForeign
      ∧ classify { base := 32, size := .s32 } (testFrame 32 0 0 []) = .testDecoded 0
      ∧ classify { base := 32, size := .s32 } (testFrame 63 0 0 []) = .testDecoded 31
      ∧ classify { base := 32, size := .s32 } (testFrame 64 0 0 []) = .testForeign := by decide +kernel

theorem test_hyp_loopedFrame :
    (31 : Fin 256).val < narrow.window.size.value ∧ (narrow.stream 31).config.payloadLen ≤ 255
      ∧ classify narrow.window (buildTest narrow 31).2 = .testDecoded 31 := by decide +kernel

theorem test_hyp_clientIn :
    let own := (frameOf 0x01 []).bytes
    let broadcast := buildFrame 2 63 0 0 0 [0x01000000]
    bench.present 3 = true ∧ bench.present 4 = false ∧ held.inReset = true
      ∧ (classify bench.window own = .management true ∧ own.address = bench.addr ∧ bench.addr ≠ 63)
      ∧ (classify bench.window broadcast = .management true ∧ broadcast.address = 63)
      ∧ classify bench.window [1] ≠ .management true ∧ (bench.lane 2).egress = .test ∧ (bench.lane 1).egress = .client := by
  decide +kernel

theorem test_hyp_lineIn :
    classify bench.window [1] = .notProbe ∧ classify bench.window (frameOf 0x01 []).bytes = .management true
      ∧ classify bench.window [0xB7, 0xE2] = .headerError ∧ classify narrow.window (testFrame 32 0 0 []) = .testForeign
      ∧ (classify bench.window (testFrame 6 0 0 []) = .testDecoded 6 ∧ (bench.stream 6).chk.sync = .off)
      ∧ (classify bench.window (testFrame 8 0 0 []) = .testDecoded 8 ∧ (bench.lane 2).ingress = .check
          ∧ (bench.stream 8).chk.sync ≠ .off ∧ (bench.stream 8).config.ingressLane = 2)
      ∧ (classify bench.window (testFrame 5 0 0 []) = .testDecoded 5 ∧ (bench.lane 0).ingress = .tap
          ∧ (bench.stream 5).chk.sync ≠ .off ∧ (bench.stream 5).config.ingressLane = 0) := by decide +kernel

/-- A jump at a STALE checker: the delivery raises LOCK_LOST for its stream alone (R122, R158). -/
theorem test_deliver :
    let t := deliver bench 200 (testFrame 200 32767 0 [])
    (t.stream 200).chk.sync = .hunt ∧ (t.stream 200).events = 4 ∧ (t.stream 5).events = 2 ∧ t.events.listed = [5, 200] := by
  decide +kernel

/-- No stream is active here: the opportunities of lanes 0 and 2 fall to the clients or to none. -/
def quiet : State :=
  (State.reset.setLane 0 { Lane.reset with egress := .mixed }).setLane 2 { Lane.reset with egress := .test }

theorem test_hyp_lineOut :
    (bench.lane 1).egress = .client ∧ arbiterChoice (paceLane bench 2) 2 = some 9
      ∧ (arbiterChoice (paceLane quiet 0) 0 = none ∧ (quiet.lane 0).egress = .mixed)
      ∧ (arbiterChoice (paceLane quiet 2) 2 = none ∧ (quiet.lane 2).egress = .test) := by
  have h0 : tableWhere (fun r => r.paces 0) quiet.streams = [] := by decide +kernel
  have h2 : tableWhere (fun r => r.paces 2) quiet.streams = [] := by decide +kernel
  have a0 : arbiterChoice quiet 0 = none := by decide +kernel
  have a2 : arbiterChoice quiet 2 = none := by decide +kernel
  have b : arbiterChoice (paceLane bench 2) 2 = some 9 := by decide +kernel
  refine ⟨by decide +kernel, b, ⟨?_, by decide +kernel⟩, ?_, by decide +kernel⟩ <;> simp only [paceLane, h0, h2, List.foldl]
  · exact a0
  · exact a2

theorem test_hyp_pacing :
    ((bench.stream 5).gen.state = .running ∧ (bench.stream 5).gen.countdown = 1 ∧ (bench.stream 5).gen.due = false)
      ∧ (let s := bench.setGen 5 { (bench.stream 5).gen with due := true };
          (s.stream 5).gen.state = .running ∧ (s.stream 5).gen.countdown = 1 ∧ (s.stream 5).gen.due = true)
      ∧ (bench.stream 6).gen.state ≠ .running ∧ 1 < (bench.stream 9).gen.countdown := by decide +kernel

/-- A lane's pacing that finds its stream due raises PACE_SLIP (R91). -/
theorem test_paceSlip :
    let t := paceLane (bench.setGen 9 { (bench.stream 9).gen with countdown := 1 }) 2
    (t.stream 9).gen.paceSlips = 1 ∧ (t.stream 9).gen.countdown = 16 ∧ (t.stream 9).events = 16 := by decide +kernel

theorem test_hyp_rateInjection :
    let g := (bench.stream 5).gen
    (g.state = .running ∧ g.interval ≠ 0 ∧ g.injCountdown = 1)
      ∧ (next (exec (.rateInjection 5 0) bench)).injected = 1
      ∧ ((next (exec (.rateInjection 5 0) bench)).stream 5).gen.injCountdown = 3
      ∧ (injectWord { g with injCountdown := 2 } 0).1.injCountdown = 1
      ∧ ((injectWord g 0).1.injCountdown = 3 ∧ (injectWord g 0).1.ditherPhase = 1)
      ∧ (injectWord { g with interval := 0, injCountdown := 7 } 0).1.injCountdown = 7 := by decide +kernel

/-- An Outbound Queue of n replies. -/
def replies (n : Nat) (waiting : Option OutFrame) : State :=
  { bench with agent := { bench.agent with outbound := List.replicate n ⟨false, [1]⟩, waiting := waiting } }

theorem test_hyp_clientOut :
    (replies 8 (some ⟨false, [2]⟩)).agent.outbound = ⟨false, [1]⟩ :: List.replicate 7 ⟨false, [1]⟩
      ∧ (bench.lane 1).ingressBuf = [[2]] ∧ (bench.lane 3).ingressBuf = [] ∧ bench.agent.outbound = []
      ∧ ((replies 7 (some ⟨false, [2]⟩)).agent.waiting = some ⟨false, [2]⟩
          ∧ (replies 7 (some ⟨false, [2]⟩)).agent.outbound.length < 8)
      ∧ bench.agent.waiting = none ∧ 8 ≤ (replies 8 none).agent.outbound.length := by decide +kernel

/-! ## Patterns and deliveries -/

theorem test_hyp_patterns :
    (Prbs.prbs31.ones ≠ 0 ∧ Prbs.prbs31.ones &&& Prbs.prbs31.ones = Prbs.prbs31.ones)
      ∧ ((bench.store.pattern 0).len ≤ 16384 ∧ (299 : Word).toNat < (bench.store.pattern 0).len)
      ∧ (nextWord bench.store (.user 0) true 299).2 = 0 ∧ (nextWord bench.store (.user 0) false 256).1 = 9
      ∧ (0 : Word) >>> (32 - Prbs.prbs7.stages) = 0 := by decide +kernel

/-- Seeding frames with errors in word 0 after the seed and in word 1, a seed of 0, and a USER frame over the pattern's end. -/
theorem test_hyp_seeding :
    seedFrame bench.store (.prbs .prbs7) false 0 [0x020C28F3, 0] =
        some (1 + onesCount (Prbs.prbs7.run 32 0 0x72).1, (Prbs.prbs7.run 32 0 0x72).2)
      ∧ Prbs.prbs7.seed true 0xFE000000 = 0 ∧ Prbs.prbs7.seed false 0x020C28F3 ≠ 0
      ∧ seedFrame bench.store (.fixed 0xF) true 9 [0xF, 0xFFFFFFF0] = some (32, 0)
      ∧ ((bench.store.pattern 0).len = 300 ∧ seedFrame bench.store (.user 0) false 299 [0, 7, 0, 1] = some (1, 3)) := by
  decide +kernel

/-- The ends of the sequence classes for a leap limit of 15. -/
theorem test_hyp_sequence :
    (15 ≤ 15)
      ∧ [0, 1, 15, 16, 32767, 32768, 65535].map (seqClass 15)
        = [.inSequence 0, .inSequence 1, .inSequence 15, .jump, .jump, .late, .late]
      ∧ (testFrame 5 8 0 []).sequence + 1 = (bench.stream 5).chk.expected := by decide +kernel

/-- A USER configuration on pattern 0 of the bench, and a frame of it. -/
def userCfg : StreamConfig := { cfg 0 0 with kind := .user 0, badThreshold := 31 }
def userFrame (offset : Word) : Frame := testFrame 5 0 offset [7, 0, 0, 0]

theorem test_hyp_beforeLock :
    let whole := fun f : Frame => 4 * f.lengthField ≤ f.body.length ∧ f.lengthField = 4
    let fixed := testFrame 5 0 0 [0xF, 0xF, 0xF, 0xF]
    let off : Checker := Checker.reset
    (bench.stream 6).chk.sync = .off ∧ (bench.stream 8).chk.sync = .verify
      ∧ (¬ whole (testFrame 5 0 0 [0xF]) ∧ whole fixed ∧ whole (userFrame 300))
      ∧ ((bench.store.pattern 0).len ≤ (userFrame 300).offset.toNat ∧ ¬ (bench.store.pattern 0).len ≤ (userFrame 299).offset.toNat)
      ∧ seedFrame bench.store (.prbs .prbs7) false 0 [0, 0, 0, 0] = none
      ∧ seedFrame bench.store (.fixed 0xF) false 0 fixed.words = some (0, 0)
      ∧ seedFrame bench.store (.fixed 0) false 0 fixed.words = some (16, 0)
      ∧ [0, 3, 4, 32767, 32768].map (fun n => seqClass 3 (ahead (testFrame 5 n 0 []) off))
        = [.inSequence 0, .inSequence 3, .jump, .jump, .late]
      ∧ (takeDelivery { cfg 0 0 with verifyCount := 1 } bench.store true fixed { off with sync := .hunt }).2 = [.lockGained]
      ∧ (takeDelivery (cfg 0 0) bench.store true fixed { off with sync := .verify, progress := 1 }).1.progress = 2 := by
  decide +kernel

/-- LOCKED: a good frame, a bad one after a gap that costs lock, an incomplete one, a slip, a late one and a jump. -/
theorem test_hyp_underLock :
    let c : Checker := { Checker.reset with sync := .locked, pat := 0 }
    let take := fun (cf : StreamConfig) (f : Frame) (c : Checker) => takeDelivery cf bench.store true f c
    let sound := take userCfg (userFrame 0) c
    let slip := take { userCfg with verifyCount := 1 } (userFrame 0) { c with pat := 1 }
    let gap := take { cfg 0 0 with lossCount := 1, badThreshold := 15 } (testFrame 5 3 0 [0, 0, 0, 0]) c
    let short := take userCfg (testFrame 5 0 0 [7]) c
    (c.sync = .locked ∧ (bench.stream 200).chk.sync = .stale)
      ∧ (sound.1.sync = .locked ∧ sound.1.cum.bits = 128 ∧ sound.1.pat = 4)
      ∧ (slip.2 = [.lockLost, .lockGained] ∧ slip.1.cum.resyncs = 1)
      ∧ (gap.2 = [.lockLost] ∧ gap.1.cum.lost = 3 ∧ gap.1.cum.bad = 1)
      ∧ (short.1.cum.mismatches = 1 ∧ short.1.pat = 4 ∧ short.1.badRun = 1)
      ∧ ((take userCfg (testFrame 5 32768 0 []) c).1.cum.late = 1)
      ∧ (take userCfg (testFrame 5 32767 0 []) c).2 = [.lockLost] := by decide +kernel

/-- The bins' ends, and the saturation's. -/
theorem test_hyp_bursts :
    [1, 2, 3, 4, 7, 8, 15, 16, 63, 64, 255, 256, 1023, 1024].map burstBin = [0, 1, 1, 2, 2, 3, 3, 4, 4, 5, 5, 6, 6, 7]
      ∧ satAdd (65534 : BitVec 16) 1 = 65535 ∧ satAdd (65535 : BitVec 16) 1 = 65535
      ∧ ({ Checker.reset with openBurst := 1 } : Checker).openBurst ≠ 0 ∧ Checker.reset.openBurst = 0 := by decide +kernel

theorem test_hyp_silence :
    ¬ ((bench.stream 6).chk.sync = .verify ∨ (bench.stream 6).chk.sync = .locked)
      ∧ ((bench.stream 8).chk.sync = .verify ∧ min ((bench.stream 8).chk.silence + 1) 65535 = 7
          ∧ (bench.stream 8).config.silenceTimeout = 7)
      ∧ ((bench.stream 5).chk.sync = .locked ∧ min ((bench.stream 5).chk.silence + 1) 65535 = 100
          ∧ (bench.stream 5).config.silenceTimeout = 100)
      ∧ min ((bench.setChk 5 { (bench.stream 5).chk with silence := 98 }).stream 5).chk.silence 65535 + 1 ≠ 100
      ∧ min (65535 + 1) 65535 = 65535 := by decide +kernel

/-! ## Ticks, gates, ring, store -/

/-- The bench's gates with one member of gate 0. -/
def ticking : State :=
  { State.reset with
    streams := State.reset.streams.set 0 { Stream.reset with chk := { Checker.reset with sync := .locked } }
    gates := bench.gates }

theorem test_hyp_ticks :
    ticking.inReset = false ∧ ([3, 0] : List (Fin 4)).Nodup ∧ ([.gate 1, .checker 5] : List TickSite).Nodup := by
  decide +kernel

/-- The count event that ends gate 0's interval: the member's record is offered, and the chained gate 1 opens. -/
theorem test_hyp_intervalEnd1 :
    (next (exec (.intervalEnd 0) ticking)).ring.records.map (fun r => (r.stream, r.partialEnd)) = [(0, false)] := by
  decide +kernel

theorem test_hyp_intervalEnd2 :
    (next (exec (.intervalEnd 0) ticking)).gates.toList.map (fun g => (g.number, g.count, g.state))
      = [(1, 0, .opened), (0, 0, .opened), (0, 0, .idle), (0, 0, .armed)] := by decide +kernel

/-- The same with the partner OPEN and SINGLE, its member in the same event: both batches, the even gate's first, both ends
(R141). -/
theorem test_intervalEnd_partner :
    let s := { bench with gates := bench.gates.set 1 { bench.gate 1 with state := .opened, mode := .single } }
    let t := next (exec (.intervalEnd 0) s)
    (t.ring.records.drop 1).map (fun r => (r.stream, r.gate)) = [(5, 0), (8, 0), (200, 1)]
      ∧ (t.gate 1).state = .idle ∧ (t.gate 1).number = 1 ∧ (t.gate 0).state = .opened := by decide +kernel

/-- With every policy HIGH and the mark at 1, the notices of one interval end: RING_HIGH, then GATE_END with gate and number
(R31, R149). -/
theorem test_intervalEnd_notices :
    let s := { ticking with
      ring := { Ring.reset with highWater := 1 }
      events := { EventUnit.reset with policies := Vector.replicate 12 .high } }
    (endInterval 0 false 0 s).agent.outbound.map (fun o => o.bytes.words)
      = [[0x0800FFFF, 0, 0], [0x0E00FFFF, 0, 0]] := by decide +kernel

/-- A member over its threshold raises SEVERE_TICK (R138). -/
theorem test_severeTick :
    let t := classifyMembers (bench.setChk 5 { (bench.stream 5).chk with tickErrors := 1001 }) 0
    (t.stream 5).events = 34 ∧ (t.stream 5).chk.ivl.severeTicks = 1 ∧ (t.stream 5).chk.tickErrors = 0 := by decide +kernel

/-- A T1MS tick at a LOCKED checker (R123), and a LINE_OUT_OPPORTUNITY with nothing to send (R47). -/
theorem test_t1ms_lineOut :
    ((next (exec (.t1ms []) ticking)).stream 0).chk.silence = 1
      ∧ ((next (exec (.lineOutOpportunity 0) ticking)).lane 0).lineOut = none := by decide +kernel

theorem test_hyp_countEvents :
    (bench.gate 2).state = .idle ∧ ((bench.gate 1).state = .armed ∧ (bench.gate 1).qualifier = .nextCount)
      ∧ ((bench.gate 3).state = .armed ∧ (bench.gate 3).qualifier = .syncEdge)
      ∧ ((bench.gate 0).state = .opened ∧ (bench.gate 0).count + 1 = (bench.gate 0).length) := by decide +kernel

theorem test_hyp_intervalEnds :
    partner bench 0 = some 1 ∧ partner bench 1 = none ∧ (bench.gate 2).state ≠ .opened
      ∧ bench.policy (.device .gateEnd) ≠ .disabled ∧ members bench 0 = [5, 8] ∧ members bench 1 = [200] := by
  decide +kernel

theorem test_hyp_offer :
    (State.reset.ring.records.length ≤ 1024)
      ∧ (let s := { bench with ring := { bench.ring with records := List.replicate 1023 (recordOf bench 0 false 5), highWater := 1024 } };
          let t := offer s [recordOf bench 0 false 5, recordOf bench 0 false 8];
          t.ring.records.length = 1024 ∧ t.ring.lost = 1 ∧ t.events.device = 0x300) := by decide +kernel

theorem test_hyp_completions :
    (bench.store.clearing = some 3 ∧ bench.store.clearQueue = [4]) ∧ State.reset.store.clearing = none
      ∧ (let t := next (exec .clearCompletion bench);
          t.store.clearing = some 4 ∧ t.store.clearQueue = [] ∧ (t.store.seg 3).state = .blank
            ∧ (t.store.seg 4).state = .clearing ∧ t.events.device = 0x500)
      ∧ wiping.store.mode = .wiping ∧ bench.store.mode = .normal
      ∧ (next (exec .wipeCompletion wiping)).events.device = 0x900 := by decide +kernel

/-! ## Executions: for every command a frame the agent executes with arguments the command accepts, and one it does not -/

/-- A command code, arguments of an accepted count, and arguments of a count it refuses. -/
def calls : List (Byte × List Word × List Word) :=
  [(0x01, [], [0]), (0x03, [], [0]), (0x10, List.replicate 16 0, List.replicate 15 0), (0x11, [0], []), (0x12, [0], []),
    (0x18, [0], []), (0x19, [0], []), (0x1A, [0, 0, 0], [0, 0]), (0x1B, [0], []), (0x1C, [0, 1], [0]), (0x20, [0], []),
    (0x21, [0], []), (0x22, [0], [0, 0])]
  ++ [(0x28, [0, 0, 0], [0, 0]), (0x29, [0, 0], [0]), (0x2A, [0, 256], [0]), (0x30, [0, 1], [0]),
    (0x30, List.replicate 65 0, List.replicate 66 0), (0x31, [0, 0, 1], [0]), (0x32, [0], []), (0x33, [], [0]),
    (0x34, [0, 0, 1], [0]), (0x35, [0], []), (0x36, [0], []), (0x37, [0], [])]
  ++ [(0x40, [0, 0, 1, 0, 0, 0], [0]), (0x41, [0], []), (0x42, [0], []), (0x43, [0], []), (0x48, [1], []), (0x49, [1], []),
    (0x4A, [1], []), (0x4B, [], [0]), (0x50, [], [0]), (0x51, [0, 0], [0]), (0x52, [1, 1], [0])]

/-- Each frame is ready, whole and of its code, and carries its arguments. -/
theorem test_hyp_executing :
    ∀ c ∈ calls, ∀ args ∈ [c.2.1, c.2.2],
      (queued State.reset c.1 args).ready = some (frameOf c.1 args, []) ∧ (frameOf c.1 args).badBody = false
        ∧ (frameOf c.1 args).topByte = c.1 ∧ (frameOf c.1 args).args = args := by decide +kernel

theorem test_hyp_counts :
    (∀ c ∈ calls, acceptsCount c.1 c.2.1.length = true ∧ acceptsCount c.1 c.2.2.length = false ∧ knownCode c.1 = true)
      ∧ acceptsCount 0x02 254 = true ∧ (frameOf 0x02 (List.replicate 254 1)).args.length = 254
      ∧ status State.reset 0x10 (List.replicate 15 0) = 3 := by decide +kernel

/-- Bodies that R166's orders 1 to 3 refuse: length field 0, a body of 0 and of 4 bytes under a length field of 2, an unknown
code. -/
theorem test_hyp_refused :
    let empty : ControlFrame := ⟨false, buildFrame 2 0 0 0 0 []⟩
    let two := fun n => (⟨false, (buildFrame 2 0 0 0 0 [0x01000000, 0]).take (14 + n)⟩ : ControlFrame)
    empty.bytes.lengthField = 0
      ∧ ((two 0).bytes.body = [] ∧ (two 0).bytes.lengthField = 2)
      ∧ ((two 4).bytes.body.length = 4 ∧ (two 7).bytes.body.length < 4 * (two 7).bytes.lengthField)
      ∧ ((frameOf 0x7F []).badBody = false ∧ knownCode 0x7F = false)
      ∧ (Instr.identify ≠ .unknownCommand ∧ knownCode 0x01 = true ∧ rowOfCode 0x01 = .identify
          ∧ Instr.identify ≠ (frameOf 0x02 []).row)
      ∧ (rowOfCode (0x00 : Byte).toNat = .unknownCommand ∧ Instr.unknownCommand ≠ (frameOf 0x02 []).row)
      ∧ bench.ready = none ∧ (255 : Word).toNat = (255 : Fin 256).val := by decide +kernel

/-! ## The laws hold of the bench, where every table has something in it, and it takes a step -/

theorem test_law_step : ∃ t, step bench = .next t := ⟨bench, by
  have h : nextExecution bench = none := by decide +kernel
  have p : bench.pending = [] := rfl
  simp only [step, p, h]⟩

theorem test_law_queues : QueueLaw bench := by
  unfold QueueLaw
  exact ⟨by decide +kernel, by decide +kernel, by decide +kernel, by decide +kernel, (fun _ h => by cases h), by decide +kernel,
    by decide +kernel, by decide +kernel, by decide +kernel⟩

theorem test_law_pending : PendingLaw bench := by unfold PendingLaw; decide +kernel

theorem test_law_counters : CounterLaw bench := by unfold CounterLaw Interval.lawful; decide +kernel

theorem test_law_gates : GateLaw bench := by
  have h : ∀ g, (bench.gate g).pendingLength = none := by decide +kernel
  have k : ∀ g, (bench.gate g).count < (bench.gate g).length ∧ (bench.gate g).length ≤ 65535
      ∧ ((bench.gate g).source = .chain → g = 1 ∨ g = 3) := by decide +kernel
  exact fun g => ⟨(k g).1, (k g).2.1, (fun n hn => by rw [h g] at hn; cases hn), (k g).2.2⟩

theorem test_law_window : WindowLaw bench := by unfold WindowLaw; decide +kernel

theorem test_law_generators : GeneratorLaw bench := by unfold GeneratorLaw Stream.genLawful; decide +kernel

theorem test_law_checkers : CheckerLaw bench := by unfold CheckerLaw Stream.chkLawful; decide +kernel

theorem test_law_segments : ∀ g, (bench.store.seg g).lawful := by
  intro g
  have h : ∀ g, (bench.store.seg g).state = .full ∧ (bench.store.seg g).fill = 256
      ∨ (bench.store.seg g).state = .partly ∧ (bench.store.seg g).fill = 200
      ∨ ((bench.store.seg g).state ≠ .full ∧ (bench.store.seg g).state ≠ .partly) ∧ (bench.store.seg g).fill = 0 := by
    decide +kernel
  rcases h g with ⟨a, b⟩ | ⟨a, b⟩ | ⟨⟨a, a'⟩, b⟩ <;> unfold Segment.lawful
  · rw [a]; exact b
  · rw [a]; exact ⟨by omega, by rw [b]; decide⟩
  · split <;> first | exact b | contradiction

theorem test_law_store : StoreLaw bench := by
  unfold StoreLaw Store.clearLawful Store.patternLawful
  exact ⟨by decide +kernel, test_law_segments,
    ⟨by decide +kernel, by decide +kernel, by decide +kernel, by decide +kernel, by decide +kernel⟩,
    by decide +kernel⟩

theorem test_law_uses : UseLaw bench := by unfold UseLaw; decide +kernel

theorem test_law_presence : PresenceLaw bench := by
  unfold PresenceLaw Lane.unused StreamConfig.lawful
  exact ⟨(fun h => by cases h), by decide +kernel, by decide +kernel⟩

end Sys2Proof.Tests
end

section
/-! SUPPORT. What a step can do to the stream checkers, the stream configurations, the lanes and the Result Ring: a chain of
the moves listed here, unless it is a hardware reset or its release. Every other block changes freely (`Outside`). An
invariant of these blocks is proved by looking at each move once. -/

namespace Sys2Proof.Machine

/-! ## The moves -/

/-- The blocks the moves speak of are the same in `t` as in `s`; everything else may differ. -/
structure Outside (s t : State) : Prop where
  inReset : t.inReset = s.inReset
  strap : t.lanesStrap = s.lanesStrap
  lanes : t.lanes = s.lanes
  records : t.ring.records = s.ring.records
  config : ∀ i, (t.stream i).config = (s.stream i).config
  chk : ∀ i, (t.stream i).chk = (s.stream i).chk

/-- The checker parts one event can leave at stream `i`. -/
inductive CheckerChange (s : State) (i : Fin 256) : Checker → Prop
  /-- A delivery (R109). -/
  | delivered (f : Frame) :
      CheckerChange s i
        (takeDelivery (s.stream i).config s.store (s.gateOpenFor (s.stream i)) f (s.stream i).chk).1
  /-- A tick of the silence timer short of its timeout (R123). -/
  | waited (h : (s.stream i).chk.timed = true) :
      CheckerChange s i { (s.stream i).chk with silence := (s.stream i).chk.nextSilence }
  /-- The silence of a checker in VERIFY expires (R124). -/
  | lapsed :
      CheckerChange s i
        (Checker.tally { (s.stream i).chk with silence := (s.stream i).chk.nextSilence }
          (s.gateOpenFor (s.stream i)) { resyncs := 1 }).enterHunt
  /-- The silence of a checker in LOCKED expires (R124). -/
  | stale (h : (s.stream i).chk.sync = .locked) :
      CheckerChange s i (Checker.enterStale { (s.stream i).chk with silence := (s.stream i).chk.nextSilence })
  /-- A member's tick is classified (R138). -/
  | classified (h : (s.stream i).chk.sync ≠ .off) :
      CheckerChange s i ((s.stream i).chk.afterTick (tickClass (s.stream i)))
  /-- START_CHK (R106). -/
  | started : CheckerChange s i ((s.stream i).chk.started (s.gateOpenFor (s.stream i)))
  /-- STOP_CHK (R107). -/
  | stopped : CheckerChange s i (s.stream i).chk.stopped
  /-- RESTART_CHK without lock (R108). -/
  | hunted : CheckerChange s i (s.stream i).chk.enterHunt
  /-- RESTART_CHK under lock (R108). -/
  | unlocked :
      CheckerChange s i ((s.stream i).chk.tally (s.gateOpenFor (s.stream i)) { resyncs := 1 }).enterHunt

/-- One move of the part. -/
inductive Move : State → State → Prop
  | outside {s t : State} (h : Outside s t) : Move s t
  | checker {s : State} {i : Fin 256} {c : Checker} (h : CheckerChange s i c) : Move s (s.setChk i c)
  /-- Every member of a gate starts a fresh interval (R137, R139 step 2). -/
  | fresh (s : State) (g : Fin 4) : Move s (freshMembers s g)
  /-- An interval end's batch is offered to the ring (R139 step 1). -/
  | offered (s : State) (g : Fin 4) (partialEnd : Bool) :
      Move s (offer s ((members s g).map (recordOf s g partialEnd)))
  /-- Records are released (R152). -/
  | released (s : State) (k : Nat) : Move s (s.setRing { s.ring with records := s.ring.records.drop k })
  /-- A present lane changes. -/
  | lane {s : State} {l : Fin 16} (n : Lane) (h : s.present l = true) : Move s (s.setLane l n)
  /-- CLEAR_COUNTS (R20). -/
  | cleared (s : State) (i : Fin 256) : Move s (s.setStream i (s.stream i).cleared)
  /-- SET_STREAM at a stream without an active side, its values in range and its lanes present (R17, R18). -/
  | configured {s : State} {i : Fin 256} (cfg : StreamConfig) (hidle : (s.stream i).active = false)
      (hrange : cfg.lawful) (heg : s.present cfg.egressLane = true) (hing : s.present cfg.ingressLane = true) :
      Move s (s.setStream i { s.stream i with configured := true, config := cfg })
  /-- RESET_ENGINE (R171). -/
  | engineReset (s : State) : Move s (engineReset s)

/-- Moves one after another. -/
abbrev Chain : State → State → Prop := Relation.ReflTransGen Move

theorem Move.chain {s t : State} (h : Move s t) : Chain s t := .single h

theorem Outside.chain {s t : State} (h : Outside s t) : Chain s t := (Move.outside h).chain

/-- What every move keeps, a chain keeps. -/
theorem Chain.keeps {P : State → Prop} (hmove : ∀ {s t}, Move s t → P s → P t) {s t : State} (h : Chain s t) (hs : P s) :
    P t := by
  induction h with
  | refl => exact hs
  | tail _ hm ih => exact hmove hm ih

/-! ## Changes outside -/

theorem Outside.of_streams {s t : State} (inReset : t.inReset = s.inReset) (strap : t.lanesStrap = s.lanesStrap)
    (lanes : t.lanes = s.lanes) (ring : t.ring = s.ring) (streams : t.streams = s.streams) : Outside s t where
  inReset := inReset
  strap := strap
  lanes := lanes
  records := by rw [ring]
  config i := by rw [State.stream_congr streams]
  chk i := by rw [State.stream_congr streams]

/-- A stream's record changes, its configuration and its checker apart. -/
theorem Outside.setStream {s : State} {i : Fin 256} {r : Stream} (hcfg : r.config = (s.stream i).config)
    (hchk : r.chk = (s.stream i).chk) : Outside s (s.setStream i r) where
  inReset := rfl
  strap := rfl
  lanes := rfl
  records := rfl
  config j := by
    rw [State.stream_setStream]
    split
    case isTrue h => rw [← h, hcfg]
    case isFalse => rfl
  chk j := by
    rw [State.stream_setStream]
    split
    case isTrue h => rw [← h, hchk]
    case isFalse => rfl

theorem Outside.mapStreams {s : State} {f : Stream → Stream} (hcfg : ∀ r, (f r).config = r.config)
    (hchk : ∀ r, (f r).chk = r.chk) : Outside s (s.mapStreams f) where
  inReset := rfl
  strap := rfl
  lanes := rfl
  records := rfl
  config i := by simp [hcfg]
  chk i := by simp [hchk]

@[simp] theorem offer_inReset (s : State) (batch : List Record) : (offer s batch).inReset = s.inReset :=
  offer_induction s batch (P := fun t => t.inReset = s.inReset) rfl (fun _ _ _ _ h => by simpa using h)

@[simp] theorem offer_lanesStrap (s : State) (batch : List Record) : (offer s batch).lanesStrap = s.lanesStrap :=
  offer_induction s batch (P := fun t => t.lanesStrap = s.lanesStrap) rfl (fun _ _ _ _ h => by simpa using h)

variable (s : State)

theorem setGen_chain (i : Fin 256) (g : Generator) : Chain s (s.setGen i g) := Outside.chain (.setStream rfl rfl)

theorem setStore_chain (st : Store) : Chain s (s.setStore st) := Outside.chain (.of_streams rfl rfl rfl rfl rfl)

theorem setEvents_chain (e : EventUnit) : Chain s (s.setEvents e) := Outside.chain (.of_streams rfl rfl rfl rfl rfl)

theorem setAgent_chain (a : Agent) : Chain s (s.setAgent a) := Outside.chain (.of_streams rfl rfl rfl rfl rfl)

theorem setGate_chain (g : Fin 4) (x : Gate) : Chain s (s.setGate g x) :=
  Outside.chain (.of_streams rfl rfl rfl rfl rfl)

theorem raiseDevice_chain (k : DeviceKind) (d1 d2 : Word) : Chain s (s.raiseDevice k d1 d2) :=
  Outside.chain (.of_streams (by simp) (by simp) (by simp) (by simp) (by simp))

theorem raiseStream_chain (i : Fin 256) (k : StreamKind) : Chain s (s.raiseStream i k) :=
  Outside.chain
    { inReset := by simp, strap := by simp, lanes := by simp, records := by simp, config := by simp, chk := by simp }

theorem raiseAll_chain (i : Fin 256) (ks : List StreamKind) : Chain s (s.raiseAll i ks) :=
  Outside.chain
    { inReset := by simp, strap := by simp, lanes := by simp, records := by simp, config := by simp, chk := by simp }

theorem answer_chain (f : ControlFrame) (echo : Byte) (a : Answer) : Chain s (s.answer f echo a) :=
  Outside.chain (.of_streams (by simp) (by simp) (by simp) (by simp) (by simp))

theorem startPulse_chain (g : Fin 4) (base : Nat) : Chain s (startPulse s g base) := by
  unfold startPulse
  split
  · exact Outside.chain (.of_streams rfl rfl rfl rfl rfl)
  · exact .refl

theorem enterWaiting_chain : Chain s (enterWaiting s) := by
  obtain ⟨r, -, -, h⟩ | ⟨-, h⟩ := enterWaiting_cases s
  · rw [h]
    exact setAgent_chain s _
  · rw [h]

/-- A fold of chains is a chain. -/
theorem foldl_chain {α : Type} {f : State → α → State} (h : ∀ s a, Chain s (f s a)) (l : List α) :
    Chain s (l.foldl f s) := by
  induction l generalizing s with
  | nil => exact .refl
  | cons a l ih => exact (h s a).trans (ih (f s a))

theorem State.present_congr {s t : State} (h : t.lanesStrap = s.lanesStrap) (l : Fin 16) : t.present l = s.present l := by
  rw [State.present, State.present, State.populated, State.populated, h]

/-- The straps, so the lanes that are present, stay in a move. -/
theorem Move.present {s t : State} (h : Move s t) (l : Fin 16) : t.present l = s.present l := by
  cases h with
  | outside h => exact State.present_congr h.strap l
  | offered g p => exact State.present_congr (offer_lanesStrap s _) l
  | _ => rfl

theorem Chain.present {s t : State} (h : Chain s t) (l : Fin 16) : t.present l = s.present l :=
  h.keeps (P := fun t => t.present l = s.present l) (fun hm hs => (hm.present l).trans hs) rfl

/-- A lane that is present changes at the end of a chain. -/
theorem Chain.setLane {s t : State} (h : Chain s t) {l : Fin 16} (hl : s.present l = true) (n : Lane) :
    Chain s (t.setLane l n) :=
  h.tail (.lane n ((h.present l).trans hl))

/-! ## The checkers -/

theorem deliver_chain (i : Fin 256) (f : Frame) : Chain s (deliver s i f) :=
  (Move.checker (.delivered f)).chain.trans (raiseAll_chain _ _ _)

theorem Checker.timed_iff (c : Checker) : c.timed = true ↔ c.sync = .verify ∨ c.sync = .locked := by
  simp [Checker.timed]

theorem expireSilence_chain (i : Fin 256) (h : (s.stream i).chk.timed = true) : Chain s (expireSilence s i) := by
  unfold expireSilence
  simp only []
  split
  case isTrue => exact (Move.checker .lapsed).chain
  case isFalse hv =>
    have hl : (s.stream i).chk.sync = .locked := ((Checker.timed_iff _).mp h).resolve_left hv
    exact (Move.checker (.stale hl)).chain.trans (raiseStream_chain _ _ _)

theorem timed_of_silenceExpires {r : Stream} (h : silenceExpires r = true) : r.chk.timed = true := by
  simp only [silenceExpires, Bool.and_eq_true] at h
  exact h.1.1

theorem tickChecker_chain (i : Fin 256) : Chain s (tickChecker s i) := by
  unfold tickChecker
  simp only []
  split_ifs with he ht
  · exact expireSilence_chain s i (timed_of_silenceExpires he)
  · exact (Move.checker (.waited ht)).chain
  · exact .refl

theorem restartChecker_chain (i : Fin 256) : Chain s (restartChecker s i) := by
  unfold restartChecker
  simp only []
  split_ifs
  · exact (Move.checker .unlocked).chain.trans (raiseStream_chain _ _ _)
  · exact (Move.checker .hunted).chain

/-! ## Gates and ticks -/

/-- A member's tick leaves every sync state. -/
theorem classifyMember_sync (i j : Fin 256) :
    ((classifyMember s i).stream j).chk.sync = (s.stream j).chk.sync := by
  have hset : ((s.setChk i ((s.stream i).chk.afterTick (tickClass (s.stream i)))).stream j).chk.sync
      = (s.stream j).chk.sync := by
    rw [State.stream_setChk]
    split
    case isTrue h => subst h; rfl
    case isFalse => rfl
  unfold classifyMember
  simp only []
  split_ifs
  · rw [State.raiseStream_stream_chk, hset]
  · exact hset

theorem classifyMember_chain (i : Fin 256) (h : (s.stream i).chk.sync ≠ .off) : Chain s (classifyMember s i) := by
  unfold classifyMember
  simp only []
  split_ifs
  · exact (Move.checker (.classified h)).chain.trans (raiseStream_chain _ _ _)
  · exact (Move.checker (.classified h)).chain

theorem foldl_classifyMember_chain (l : List (Fin 256)) (h : ∀ i ∈ l, (s.stream i).chk.sync ≠ .off) :
    Chain s (l.foldl classifyMember s) := by
  induction l generalizing s with
  | nil => exact .refl
  | cons i l ih =>
    refine (classifyMember_chain s i (h i (by simp))).trans (ih _ fun j hj => ?_)
    rw [classifyMember_sync]
    exact h j (by simp [hj])

theorem classifyMembers_chain (g : Fin 4) : Chain s (classifyMembers s g) :=
  foldl_classifyMember_chain s _ fun _ hi => (mem_members.mp hi).2

theorem openGate_chain (g : Fin 4) : Chain s (openGate s g) := (setGate_chain s g _).tail (.fresh _ g)

theorem offerBatch_chain (g : Fin 4) (partialEnd : Bool) : Chain s (offerBatch s g partialEnd) := by
  have h := Move.offered s g partialEnd
  unfold offerBatch
  split
  case h_1 => exact .refl
  case h_2 => exact h.chain

theorem endInterval_chain (g : Fin 4) (partialEnd : Bool) (base : Nat) : Chain s (endInterval g partialEnd base s) :=
  ((((offerBatch_chain s g partialEnd).tail (.fresh _ g)).trans (setGate_chain _ _ _)).trans
    (raiseDevice_chain _ _ _ _)).trans (startPulse_chain _ _ _)

theorem closeGate_chain (g : Fin 4) (stop : Bool) : Chain s (closeGate g stop s) := by
  unfold closeGate
  split
  · exact setGate_chain s _ _
  · exact .refl

theorem countEventWith_chain {atEnd : State → State} (hend : ∀ s, Chain s (atEnd s)) (g : Fin 4) :
    Chain s (countEventWith atEnd g s) := by
  have hcount := fun x => (setGate_chain s g x).trans (classifyMembers_chain _ g)
  unfold countEventWith
  simp only []
  split
  case h_1 => exact .refl
  case h_2 =>
    split
    · exact openGate_chain s g
    · exact .refl
  case h_3 =>
    split
    · exact (hcount _).trans (hend _)
    · exact hcount _

theorem feedPartner_chain (g : Fin 4) (base : Nat) : Chain s (feedPartner g base s) := by
  unfold feedPartner
  split
  · exact countEventWith_chain s (fun s => (endInterval_chain s _ _ _).trans (closeGate_chain _ _ _)) _
  · exact .refl

theorem intervalEnd_chain (g : Fin 4) (stop : Bool) (base : Nat) : Chain s (intervalEnd g stop base s) :=
  ((endInterval_chain s _ _ _).trans (feedPartner_chain _ _ _)).trans (closeGate_chain _ _ _)

theorem countEvent_chain (base : Nat) (g : Fin 4) : Chain s (countEvent base g s) :=
  countEventWith_chain s (fun s => intervalEnd_chain s _ _ _) g

theorem tickGate_chain (source : GateSource) (base : Nat) (g : Fin 4) : Chain s (tickGate source base s g) := by
  unfold tickGate
  split
  · exact countEvent_chain s _ _
  · exact .refl

theorem tickGates_chain (source : GateSource) (order : List (Fin 4)) : Chain s (tickGates source order s) :=
  foldl_chain s (fun s g => tickGate_chain s _ _ g) _

theorem tickSite_chain (base : Nat) (x : TickSite) : Chain s (tickSite base s x) := by
  cases x with
  | checker i => exact tickChecker_chain s i
  | gate g => exact tickGate_chain s _ _ g

theorem edgeGate_chain (base : Nat) (g : Fin 4) : Chain s (edgeGate base s g) := by
  unfold edgeGate
  simp only []
  split_ifs
  · exact openGate_chain s g
  · exact countEvent_chain s _ _
  · exact .refl

theorem stopGate_chain (g : Fin 4) : Chain s (stopGate s g) := by
  unfold stopGate
  split
  · exact .refl
  · exact setGate_chain s _ _
  · exact intervalEnd_chain s _ _ _

/-! ## Generators -/

theorem paceStream_chain (i : Fin 256) : Chain s (paceStream s i) := by
  unfold paceStream pacingReload
  simp only []
  split_ifs
  · exact (setGen_chain s _ _).trans (raiseStream_chain _ _ _)
  · exact setGen_chain s _ _
  · exact setGen_chain s _ _

theorem paceLane_chain (l : Fin 16) : Chain s (paceLane s l) := foldl_chain s paceStream_chain _

/-! ## Lanes -/

variable {l : Fin 16} {s}

theorem State.takes_iff : s.takes l = true ↔ s.inReset = false ∧ s.present l = true := by simp [State.takes]

theorem takeControl_chain (broadcast : Bool) (f : Frame) : Chain s (takeControl s broadcast f) := by
  unfold takeControl
  split
  · exact setAgent_chain s _
  · exact (setAgent_chain s _).trans (raiseDevice_chain _ _ _ _)

theorem takeClient_chain (h : s.present l = true) (f : Frame) : Chain s (takeClient s l f) := by
  have hlane := fun n => (Move.lane n h).chain
  unfold takeClient
  simp only []
  split_ifs
  · exact hlane _
  · exact hlane _
  · exact (hlane _).trans (raiseDevice_chain _ _ _ _)

theorem forward_chain (h : s.present l = true) (f : Frame) : Chain s (forward s l f) := by
  have hlane := fun n => (Move.lane n h).chain
  unfold forward
  simp only []
  split_ifs
  · exact hlane _
  · exact (hlane _).trans (raiseDevice_chain _ _ _ _)

theorem countVerdict_chain (h : s.present l = true) (v : Verdict) : Chain s (countVerdict s l v) := by
  have hcount : ∀ f, Chain s (s.countLane l f) := fun f => (Move.lane _ h).chain
  cases v with
  | notProbe => exact .refl
  | management => exact .refl
  | headerError => exact hcount (fun c => { c with headerErrors := satAdd c.headerErrors 1 })
  | testForeign =>
    simp only [countVerdict]
    split_ifs
    · exact .refl
    · exact hcount _
  | testDecoded i =>
    simp only [countVerdict]
    split_ifs
    · exact .refl
    · exact hcount _
    · exact hcount _

theorem Chain.forward {t : State} (h : Chain s t) (hl : s.present l = true) (f : Frame) : Chain s (forward t l f) :=
  h.trans (forward_chain ((h.present l).trans hl) f)

theorem sendTest_chain (h : s.present l = true) (i : Fin 256) : Chain s (sendTest s l i) :=
  (setGen_chain s i _).setLane h _

theorem sendClient_chain (h : s.present l = true) : Chain s (sendClient s l) := by
  have hlane := fun n => (Move.lane n h).chain
  unfold sendClient
  simp only []
  split
  · split
    · exact hlane _
    · exact hlane _
  · exact hlane _

theorem serveLineOut_chain (h : s.present l = true) : Chain s (serveLineOut s l) := by
  unfold serveLineOut
  split
  · exact sendTest_chain h _
  · exact sendClient_chain h

theorem sendForwarded_chain (h : s.present l = true) : Chain s (sendForwarded s l) := by
  have hlane := fun n => (Move.lane n h).chain
  unfold sendForwarded
  simp only []
  split
  · exact hlane _
  · exact hlane _

theorem State.present_zero (s : State) : s.present 0 = true := by simp [State.present, State.populated]

theorem sendOutbound_chain (o : OutFrame) (rest : List OutFrame) : Chain s (sendOutbound s o rest) :=
  ((setAgent_chain s _).setLane s.present_zero _).trans (enterWaiting_chain _)

@[simp] theorem Stream.atModeChange_config (r : Stream) (l : Fin 16) (a b : EgressMode) :
    (r.atModeChange l a b).config = r.config := by
  unfold Stream.atModeChange; split_ifs <;> rfl

@[simp] theorem Stream.atModeChange_chk (r : Stream) (l : Fin 16) (a b : EgressMode) :
    (r.atModeChange l a b).chk = r.chk := by
  unfold Stream.atModeChange; split_ifs <;> rfl

/-! ## The store -/

theorem completeClear_chain (g : Fin 64) : Chain s (completeClear s g) :=
  ((setStore_chain s _).trans (raiseDevice_chain _ _ _ _)).trans (setStore_chain _ _)

end Sys2Proof.Machine
end

section
/-! SUPPORT. Every row of the table is a chain of moves, a hardware reset or its release. -/

namespace Sys2Proof.Machine

/-! ## The commands -/

/-- A command's checks in front of a chain: refused, it changes nothing. -/
theorem checked_chain {cs : List (Bool × Status)} {s : State} {k : Answer × State}
    (h : (∀ c ∈ cs, c.1 = true) → Chain s k.2) : Chain s (checked cs s k).2 := by
  obtain ⟨st, -, hk⟩ | ⟨hpass, hk⟩ := checked_cases cs s k
  · rw [hk]
  · rw [hk]
    exact h (firstFail_eq_none.mp hpass)

variable (s : State) (ws : List Word)

theorem identifyAct_chain : Chain s (identifyAct ws s).2 := by
  unfold identifyAct
  split <;> exact .refl

theorem echoAct_chain : Chain s (echoAct ws s).2 := .refl

theorem resetEngineAct_chain : Chain s (resetEngineAct ws s).2 := by
  unfold resetEngineAct
  split
  · exact (Move.engineReset s).chain
  · exact .refl

theorem inRange_iff (w : Word) (lo hi : Nat) : inRange w lo hi = true ↔ lo ≤ w.toNat ∧ w.toNat ≤ hi := by
  simp [inRange]

/-- A configuration whose values have passed SET_STREAM's range checks is in range (R17). -/
theorem configOf_lawful {eg ing kind inv fixed user len pace gate leap ver loss bad sev sil : Word}
    (hlen : inRange len 4 255 = true) (hpace : inRange pace 1 4095 = true) (hleap : inRange leap 0 15 = true)
    (hver : inRange ver 1 15 = true) (hloss : inRange loss 1 15 = true) (hbad : inRange bad 1 8160 = true)
    (hsev : inRange sev 1 16777215 = true) (hsil : inRange sil 0 65535 = true) :
    (configOf eg ing kind inv fixed user len pace gate leap ver loss bad sev sil).lawful := by
  rw [inRange_iff] at hlen hpace hleap hver hloss hbad hsev hsil
  exact ⟨hlen.1, hlen.2, hpace.1, hpace.2, hleap.2, hver.1, hver.2, hloss.1, hloss.2, hbad.1, hbad.2, hsev.1, hsev.2,
    hsil.2⟩

theorem setStreamAct_chain : Chain s (setStreamAct ws s).2 := by
  unfold setStreamAct
  split
  · refine checked_chain fun h => ?_
    simp only [List.mem_cons, List.not_mem_nil, or_false, forall_eq_or_imp, forall_eq, Bool.not_eq_true'] at h
    obtain ⟨-, hidle, -, -, heg, hing, -, -, -, hlen, hpace, -, hleap, hver, hloss, hbad, hsev, hsil⟩ := h
    exact (Move.configured _ hidle (configOf_lawful hlen hpace hleap hver hloss hbad hsev hsil) heg hing).chain
  · exact .refl

theorem readStreamAct_chain : Chain s (readStreamAct ws s).2 := by
  unfold readStreamAct
  split
  · exact checked_chain fun _ => .refl
  · exact .refl

theorem clearCountsAct_chain : Chain s (clearCountsAct ws s).2 := by
  unfold clearCountsAct
  split
  · exact checked_chain fun _ => (Move.cleared s _).chain
  · exact .refl

theorem startGenAct_chain : Chain s (startGenAct ws s).2 := by
  unfold startGenAct
  split
  · exact checked_chain fun _ => (setGen_chain s _ _).trans (setStore_chain _ _)
  · exact .refl

theorem stopGenAct_chain : Chain s (stopGenAct ws s).2 := by
  unfold stopGenAct
  split
  · exact checked_chain fun _ => (setGen_chain s _ _).trans (setStore_chain _ _)
  · exact .refl

theorem setInjectAct_chain : Chain s (setInjectAct ws s).2 := by
  unfold setInjectAct
  split
  · exact checked_chain fun _ => setGen_chain s _ _
  · exact .refl

theorem injectOneAct_chain : Chain s (injectOneAct ws s).2 := by
  unfold injectOneAct
  split
  · exact checked_chain fun _ => setGen_chain s _ _
  · exact .refl

theorem injectBurstAct_chain : Chain s (injectBurstAct ws s).2 := by
  unfold injectBurstAct
  split
  · exact checked_chain fun _ => setGen_chain s _ _
  · exact .refl

theorem startChkAct_chain : Chain s (startChkAct ws s).2 := by
  unfold startChkAct
  split
  · exact checked_chain fun _ => (Move.checker .started).chain.trans (setStore_chain _ _)
  · exact .refl

theorem stopChkAct_chain : Chain s (stopChkAct ws s).2 := by
  unfold stopChkAct
  split
  · exact checked_chain fun _ => (Move.checker .stopped).chain.trans (setStore_chain _ _)
  · exact .refl

theorem restartChkAct_chain : Chain s (restartChkAct ws s).2 := by
  unfold restartChkAct
  split
  · exact checked_chain fun _ => restartChecker_chain s _
  · exact .refl

theorem present_of_laneChecks {s : State} {w : Word} {cs : List (Bool × Status)}
    (h : ∀ c ∈ laneChecks s w ++ cs, c.1 = true) : s.present (index 16 w) = true :=
  h (s.present (index 16 w), .noLane) (by simp [laneChecks])

theorem setLaneAct_chain : Chain s (setLaneAct ws s).2 := by
  unfold setLaneAct
  split
  · refine checked_chain fun h => ?_
    exact Chain.setLane (Outside.mapStreams (by simp) (by simp)).chain (present_of_laneChecks h) _
  · exact .refl

theorem readLaneAct_chain : Chain s (readLaneAct ws s).2 := by
  unfold readLaneAct
  split
  · refine checked_chain fun h => ?_
    split
    · exact (Move.lane _ (present_of_laneChecks h)).chain
    · exact .refl
  · exact .refl

theorem setWindowTo_chain (wbase : Word) (size : WindowSize) : Chain s (setWindowTo wbase size s).2 :=
  checked_chain fun _ => Outside.chain (.of_streams rfl rfl rfl rfl rfl)

theorem setWindowAct_chain : Chain s (setWindowAct ws s).2 := by
  unfold setWindowAct
  split
  · split
    · exact .refl
    · exact checked_chain fun _ => setWindowTo_chain s _ _
  · exact .refl

theorem loadWordsAct_chain : Chain s (loadWordsAct ws s).2 := by
  unfold loadWordsAct
  split
  · split
    · exact checked_chain fun _ => setStore_chain s _
    · exact .refl
  · exact .refl

theorem readSegmentAct_chain : Chain s (readSegmentAct ws s).2 := by
  unfold readSegmentAct
  split
  · exact checked_chain fun _ => .refl
  · exact .refl

theorem clearSegmentAct_chain : Chain s (clearSegmentAct ws s).2 := by
  unfold clearSegmentAct
  split
  · exact checked_chain fun _ => setStore_chain s _
  · exact .refl

theorem wipeStoreAct_chain : Chain s (wipeStoreAct ws s).2 := by
  unfold wipeStoreAct
  split
  · exact checked_chain fun _ => setStore_chain s _
  · exact .refl

theorem definePatternAct_chain : Chain s (definePatternAct ws s).2 := by
  unfold definePatternAct
  split
  · exact checked_chain fun _ => setStore_chain s _
  · exact .refl

theorem undefinePatternAct_chain : Chain s (undefinePatternAct ws s).2 := by
  unfold undefinePatternAct
  split
  · exact checked_chain fun _ => setStore_chain s _
  · exact .refl

theorem freezePatternAct_chain : Chain s (freezePatternAct ws s).2 := by
  unfold freezePatternAct
  split
  · exact checked_chain fun _ => setStore_chain s _
  · exact .refl

theorem readPatternAct_chain : Chain s (readPatternAct ws s).2 := by
  unfold readPatternAct
  split
  · exact checked_chain fun _ => .refl
  · exact .refl

theorem setGateAct_chain : Chain s (setGateAct ws s).2 := by
  unfold setGateAct
  split
  · exact checked_chain fun _ => setGate_chain s _ _
  · exact .refl

theorem startGateAct_chain : Chain s (startGateAct ws s).2 := by
  unfold startGateAct
  split
  · exact checked_chain fun _ => setGate_chain s _ _
  · exact .refl

theorem stopGateAct_chain : Chain s (stopGateAct ws s).2 := by
  unfold stopGateAct
  split
  · exact checked_chain fun _ => stopGate_chain s _
  · exact .refl

theorem readGateAct_chain : Chain s (readGateAct ws s).2 := by
  unfold readGateAct
  split
  · exact checked_chain fun _ => .refl
  · exact .refl

theorem fetchResultsAct_chain : Chain s (fetchResultsAct ws s).2 := by
  unfold fetchResultsAct
  split
  · exact checked_chain fun _ => .refl
  · exact .refl

theorem releaseResultsAct_chain : Chain s (releaseResultsAct ws s).2 := by
  unfold releaseResultsAct
  split
  · exact checked_chain fun _ => (Move.released s _).chain
  · exact .refl

theorem setRingAct_chain : Chain s (setRingAct ws s).2 := by
  unfold setRingAct
  split
  · exact checked_chain fun _ => Outside.chain ⟨rfl, rfl, rfl, rfl, fun _ => rfl, fun _ => rfl⟩
  · exact .refl

theorem readRingAct_chain : Chain s (readRingAct ws s).2 := by
  unfold readRingAct
  split <;> exact .refl

theorem readEventsAct_chain : Chain s (readEventsAct ws s).2 := by
  unfold readEventsAct
  split <;> exact .refl

theorem ackStream_chain (i : Fin 256) (mask : KindSet) : Chain s (ackStream s i mask) := by
  have hset : Outside s (s.setStream i { s.stream i with events := (s.stream i).events.removeMask mask }) :=
    .setStream rfl rfl
  exact hset.chain.trans (setEvents_chain _ _)

theorem ackEventsAct_chain : Chain s (ackEventsAct ws s).2 := by
  unfold ackEventsAct
  split
  · split
    · exact checked_chain fun _ => setEvents_chain s _
    · exact checked_chain fun _ => ackStream_chain s _ _
  · exact .refl

theorem withdrawKind_chain (k : Kind) : Chain s (withdrawKind s k) := by
  cases k with
  | device k => exact setEvents_chain s _
  | stream k =>
    have hmap := Outside.mapStreams (s := s) (f := fun r => { r with events := r.events.removeMask (kindBit k.code) })
      (fun _ => rfl) (fun _ => rfl)
    exact hmap.chain.trans (setEvents_chain _ _)

theorem setPolicy_chain (k : Kind) (p : Policy) : Chain s (setPolicy s k p) := by
  unfold setPolicy
  simp only []
  split
  · exact (setEvents_chain s _).trans (withdrawKind_chain _ k)
  · exact setEvents_chain s _

theorem setEventPolicyAct_chain : Chain s (setEventPolicyAct ws s).2 := by
  unfold setEventPolicyAct
  split
  · split
    · exact .refl
    · exact checked_chain fun _ => setPolicy_chain s _ _
  · exact .refl

/-! ## Every row -/

variable {s} {t : State}

/-- A command is a chain when its action is one: the frame leaves the queue before it, the reply comes after. -/
theorem runCommand_chain {row : Instr} {act : List Word → State → Answer × State}
    (hact : ∀ s ws, Chain s (act ws s).2) (h : runCommand row act s = .next t) : Chain s t := by
  obtain hnone | ⟨f, rest, -, -, hrun⟩ := runCommand_cases row act s
  · rw [hnone] at h
    cases h
    exact .refl
  · rw [hrun] at h
    cases h
    exact ((setAgent_chain s _).trans (hact _ _)).trans (answer_chain _ _ _ _)

theorem execUnknownCommand_chain (h : execUnknownCommand s = .next t) : Chain s t := by
  unfold execUnknownCommand at h
  split at h
  · cases h; exact .refl
  · split at h
    · cases h; exact (setAgent_chain s _).trans (answer_chain _ _ _ _)
    · cases h; exact .refl

theorem execClientInArrival_chain {l : Fin 16} {f : Frame} (h : execClientInArrival l f s = .next t) : Chain s t := by
  unfold execClientInArrival at h
  split at h
  case isTrue ht =>
    have hl := (State.takes_iff.mp ht).2
    split at h
    · cases h; exact takeControl_chain _ _
    · cases h
      have hc := takeControl_chain (s := s) true f
      exact hc.trans (takeClient_chain ((hc.present l).trans hl) f)
    · cases h; exact takeClient_chain hl f
  case isFalse => cases h; exact .refl

theorem execLineInArrival_chain {l : Fin 16} {f : Frame} {b : Bool} (h : execLineInArrival l f b s = .next t) :
    Chain s t := by
  unfold execLineInArrival at h
  split at h
  case isTrue ht =>
    have hl := (State.takes_iff.mp ht).2
    have hv := countVerdict_chain hl (classify s.window f)
    simp only [] at h
    split at h
    · split_ifs at h
      · cases h; exact (Chain.forward hv hl f).trans (deliver_chain _ _ _)
      · cases h; exact Chain.forward (hv.trans (deliver_chain _ _ _)) hl f
      · cases h; exact hv.trans (deliver_chain _ _ _)
      · cases h; exact Chain.forward hv hl f
    · cases h; exact Chain.forward hv hl f
  case isFalse => cases h; exact .refl

theorem execLineOutOpportunity_chain {l : Fin 16} (h : execLineOutOpportunity l s = .next t) : Chain s t := by
  unfold execLineOutOpportunity at h
  split at h
  case isTrue ht =>
    have hl := (State.takes_iff.mp ht).2
    have hp := paceLane_chain s l
    split at h
    · cases h; exact sendClient_chain hl
    · cases h; exact hp.trans (serveLineOut_chain ((hp.present l).trans hl))
  case isFalse => cases h; exact .refl

theorem execClientOutOpportunity_chain {l : Fin 16} (h : execClientOutOpportunity l s = .next t) : Chain s t := by
  unfold execClientOutOpportunity at h
  split at h
  case isTrue ht =>
    have hl := (State.takes_iff.mp ht).2
    split at h
    · split at h
      · cases h; exact sendOutbound_chain _ _
      · cases h; exact sendForwarded_chain hl
    · cases h; exact sendForwarded_chain hl
  case isFalse => cases h; exact .refl

theorem execPacingExpiry_chain {i : Fin 256} (h : execPacingExpiry i s = .next t) : Chain s t := by
  unfold execPacingExpiry at h
  split at h
  · cases h; exact paceStream_chain s i
  · cases h; exact .refl

theorem execRateInjection_chain {i : Fin 256} {w : Word} (h : execRateInjection i w s = .next t) : Chain s t := by
  unfold execRateInjection at h
  simp only [] at h
  split at h
  · cases h
    exact (setGen_chain s i _).trans (Outside.chain (.of_streams rfl rfl rfl rfl rfl))
  · cases h; exact .refl

theorem execWaitingReplyEntry_chain (h : execWaitingReplyEntry s = .next t) : Chain s t := by
  unfold execWaitingReplyEntry at h
  split at h
  · cases h; exact .refl
  · cases h; exact enterWaiting_chain s

theorem execT1ms_chain {order : List TickSite} (h : execT1ms order s = .next t) : Chain s t := by
  unfold execT1ms at h
  split at h
  · cases h; exact .refl
  · cases h
    have hms : Outside s { s with ms := (s.ms + 1) % 1000 } := .of_streams rfl rfl rfl rfl rfl
    exact hms.chain.trans (foldl_chain _ (fun s x => tickSite_chain s _ x) _)

/-- A tick or an edge that reaches gates alone: nothing under reset, else a chain. -/
theorem running_chain {u : State} (hu : Chain s u) (h : (if s.inReset then .next s else .next u : Result) = .next t) :
    Chain s t := by
  split at h
  · cases h; exact .refl
  · cases h; exact hu

theorem execSilenceExpiry_chain {i : Fin 256} (h : execSilenceExpiry i s = .next t) : Chain s t := by
  unfold execSilenceExpiry at h
  split at h
  case isTrue he =>
    cases h
    exact expireSilence_chain s i (timed_of_silenceExpires ((Bool.and_eq_true _ _).mp he).2)
  case isFalse => cases h; exact .refl

theorem execIntervalEnd_chain {g : Fin 4} (h : execIntervalEnd g s = .next t) : Chain s t := by
  unfold execIntervalEnd at h
  split at h
  · cases h; exact countEvent_chain s _ g
  · cases h; exact .refl

theorem execGateOutPulseEnd_chain (h : execGateOutPulseEnd s = .next t) : Chain s t := by
  cases h
  exact Outside.chain (.of_streams rfl rfl rfl rfl rfl)

theorem execClearCompletion_chain (h : execClearCompletion s = .next t) : Chain s t := by
  unfold execClearCompletion at h
  split at h
  · split at h
    · cases h; exact .refl
    · cases h; exact completeClear_chain _
  · cases h; exact .refl

theorem execWipeCompletion_chain (h : execWipeCompletion s = .next t) : Chain s t := by
  unfold execWipeCompletion at h
  split at h
  · cases h; exact (setStore_chain s _).trans (raiseDevice_chain _ _ _ _)
  · cases h; exact .refl

/-- An event other than the two reset events is a chain of moves. -/
theorem exec_chain {c : Instr} (hreset : c ≠ .hardwareReset) (hrelease : ∀ a n, c ≠ .resetRelease a n)
    (h : exec c s = .next t) : Chain s t := by
  cases c with
  | hardwareReset => exact absurd rfl hreset
  | resetRelease a n => exact absurd rfl (hrelease a n)
  | clientInArrival l f => exact execClientInArrival_chain h
  | lineInArrival l f b => exact execLineInArrival_chain h
  | lineOutOpportunity l => exact execLineOutOpportunity_chain h
  | pacingExpiry i => exact execPacingExpiry_chain h
  | rateInjection i w => exact execRateInjection_chain h
  | clientOutOpportunity l => exact execClientOutOpportunity_chain h
  | waitingReplyEntry => exact execWaitingReplyEntry_chain h
  | t1ms order => exact execT1ms_chain h
  | t10ms order => exact running_chain (tickGates_chain s _ order) h
  | t100ms order => exact running_chain (tickGates_chain s _ order) h
  | t1s order => exact running_chain (tickGates_chain s _ order) h
  | syncIn order => exact running_chain (foldl_chain s (fun s g => edgeGate_chain s _ g) _) h
  | silenceExpiry i => exact execSilenceExpiry_chain h
  | intervalEnd g => exact execIntervalEnd_chain h
  | gateOutPulseEnd => exact execGateOutPulseEnd_chain h
  | clearCompletion => exact execClearCompletion_chain h
  | wipeCompletion => exact execWipeCompletion_chain h
  | unknownCommand => exact execUnknownCommand_chain h
  | identify => exact runCommand_chain identifyAct_chain h
  | echo => exact runCommand_chain echoAct_chain h
  | resetEngine => exact runCommand_chain resetEngineAct_chain h
  | setStream => exact runCommand_chain setStreamAct_chain h
  | readStream => exact runCommand_chain readStreamAct_chain h
  | clearCounts => exact runCommand_chain clearCountsAct_chain h
  | startGen => exact runCommand_chain startGenAct_chain h
  | stopGen => exact runCommand_chain stopGenAct_chain h
  | setInject => exact runCommand_chain setInjectAct_chain h
  | injectOne => exact runCommand_chain injectOneAct_chain h
  | injectBurst => exact runCommand_chain injectBurstAct_chain h
  | startChk => exact runCommand_chain startChkAct_chain h
  | stopChk => exact runCommand_chain stopChkAct_chain h
  | restartChk => exact runCommand_chain restartChkAct_chain h
  | setLane => exact runCommand_chain setLaneAct_chain h
  | readLane => exact runCommand_chain readLaneAct_chain h
  | setWindow => exact runCommand_chain setWindowAct_chain h
  | loadWords => exact runCommand_chain loadWordsAct_chain h
  | readSegment => exact runCommand_chain readSegmentAct_chain h
  | clearSegment => exact runCommand_chain clearSegmentAct_chain h
  | wipeStore => exact runCommand_chain wipeStoreAct_chain h
  | definePattern => exact runCommand_chain definePatternAct_chain h
  | undefinePattern => exact runCommand_chain undefinePatternAct_chain h
  | freezePattern => exact runCommand_chain freezePatternAct_chain h
  | readPattern => exact runCommand_chain readPatternAct_chain h
  | setGate => exact runCommand_chain setGateAct_chain h
  | startGate => exact runCommand_chain startGateAct_chain h
  | stopGate => exact runCommand_chain stopGateAct_chain h
  | readGate => exact runCommand_chain readGateAct_chain h
  | fetchResults => exact runCommand_chain fetchResultsAct_chain h
  | releaseResults => exact runCommand_chain releaseResultsAct_chain h
  | setRing => exact runCommand_chain setRingAct_chain h
  | readRing => exact runCommand_chain readRingAct_chain h
  | readEvents => exact runCommand_chain readEventsAct_chain h
  | ackEvents => exact runCommand_chain ackEventsAct_chain h
  | setEventPolicy => exact runCommand_chain setEventPolicyAct_chain h

/-- What any event does: a hardware reset, its release, or a chain of moves. -/
theorem exec_cases {c : Instr} (h : exec c s = .next t) :
    t = hardwareReset s
      ∨ (s.inReset = true ∧ ∃ a n, t = { s with inReset := false, addr := a, lanesStrap := n })
      ∨ Chain s t := by
  by_cases hreset : c = .hardwareReset
  · subst hreset
    cases h
    exact .inl rfl
  by_cases hrelease : ∃ a n, c = .resetRelease a n
  · obtain ⟨a, n, rfl⟩ := hrelease
    simp only [exec, execResetRelease] at h
    split at h
    case isTrue hr => cases h; exact .inr (.inl ⟨hr, a, n, rfl⟩)
    case isFalse => cases h; exact .inr (.inr .refl)
  · exact .inr (.inr (exec_chain hreset (fun a n hc => hrelease ⟨a, n, hc⟩) h))

end Sys2Proof.Machine
end

section
/-! SUPPORT. The values of every table after a reset, and how an invariant of every step is proved: once for the queue of
events, the resets and each move. -/

namespace Sys2Proof.Machine

/-! ## The tables after a reset -/

@[simp] theorem State.reset_stream (i : Fin 256) : State.reset.stream i = Stream.reset :=
  Vector.getElem_replicate _

@[simp] theorem State.reset_lane (l : Fin 16) : State.reset.lane l = Lane.reset :=
  Vector.getElem_replicate _

@[simp] theorem State.reset_gate (g : Fin 4) : State.reset.gate g = Gate.reset :=
  Vector.getElem_replicate _

@[simp] theorem State.reset_seg (g : Fin 64) : State.reset.store.seg g = Segment.faulty :=
  Vector.getElem_replicate _

@[simp] theorem State.reset_pattern (p : Fin 32) : State.reset.store.pattern p = Pattern.reset :=
  Vector.getElem_replicate _

@[simp] theorem State.reset_policy (k : Kind) : State.reset.policy k = .low :=
  Vector.getElem_replicate _

@[simp] theorem hardwareReset_stream (s : State) (i : Fin 256) : (hardwareReset s).stream i = Stream.reset :=
  State.reset_stream i

@[simp] theorem hardwareReset_lane (s : State) (l : Fin 16) : (hardwareReset s).lane l = Lane.reset :=
  State.reset_lane l

@[simp] theorem engineReset_stream (s : State) (i : Fin 256) : (engineReset s).stream i = Stream.reset :=
  tableMap_get _ _ i

@[simp] theorem engineReset_lane (s : State) (l : Fin 16) : (engineReset s).lane l = (s.lane l).engineReset :=
  tableMap_get _ _ l

/-! ## Steps -/

/-- A predicate that does not look at the queue of events is kept by every step when every event keeps it. -/
theorem step_keeps {P : State → Prop} (hpending : ∀ s q, P s → P { s with pending := q })
    (hexec : ∀ {c s t}, exec c s = .next t → P s → P t) {s t : State} (hs : P s) (h : step s = .next t) : P t := by
  unfold step at h
  split at h
  · exact hexec h (hpending s _ hs)
  · split at h
    · exact hexec h hs
    · cases h; exact hs

/-- A predicate about the blocks the moves speak of is kept by every step when the resets and every move keep it. -/
theorem step_keeps_of_moves {P : State → Prop} (hpending : ∀ s q, P s → P { s with pending := q })
    (hreset : ∀ s, P (hardwareReset s))
    (hrelease : ∀ s a n, P s → P { s with inReset := false, addr := a, lanesStrap := n })
    (hmove : ∀ {s t}, Move s t → P s → P t) {s t : State} (hs : P s) (h : step s = .next t) : P t := by
  refine step_keeps hpending (fun {c s t} hc hs => ?_) hs h
  obtain rfl | ⟨-, a, n, rfl⟩ | hchain := exec_cases hc
  · exact hreset s
  · exact hrelease s a n hs
  · exact hchain.keeps hmove hs

end Sys2Proof.Machine
end

section
/-! SUPPORT. The inequalities of the counter sets (R16), through every change of a checker, and in the ring's records. -/

namespace Sys2Proof.Machine

/-! ## One compared frame -/

theorem onesCount_le (x : Word) : onesCount x ≤ 32 := by
  simpa [onesCount] using List.countP_le_length (p := fun i => x.getLsbD i) (l := List.range 32)

/-- A compared frame has at most as many bit errors as bits. -/
theorem compareWords_sum_le (st : Store) (kind : PatternKind) (invert : Bool) (ws : List Word) (pat : Word) :
    (compareWords st kind invert ws pat).1.sum ≤ 32 * ws.length := by
  induction ws generalizing pat with
  | nil => simp [compareWords]
  | cons w ws ih =>
    have hone := onesCount_le ((nextWord st kind invert pat).1 ^^^ w)
    have hrest := ih (nextWord st kind invert pat).2
    simp only [compareWords, List.sum_cons, List.length_cons]
    omega

/-! ## The checker's counter sets -/

/-- Both counter sets of a checker satisfy R16's inequalities. -/
def Checker.countersLawful (c : Checker) : Prop := c.cum.errs ≤ c.cum.bits ∧ c.ivl.lawful

theorem counterLaw_iff (s : State) :
    CounterLaw s ↔ (∀ i, (s.stream i).chk.countersLawful)
      ∧ ∀ r ∈ s.ring.records, r.counts.lawful ∧ r.endState ≠ .off := Iff.rfl

theorem Interval.lawful_zero : Interval.zero.lawful := ⟨BitVec.le_refl _, BitVec.le_refl _⟩

theorem Checker.countersLawful_reset : Checker.reset.countersLawful := ⟨BitVec.le_refl _, Interval.lawful_zero⟩

theorem Interval.lawful_add {c : Interval} {t : Tally} (h : c.lawful) (ht : t.errs ≤ t.bits) : (c.add t).lawful :=
  ⟨satAdd_le_satAdd h.1 ht, h.2⟩

/-- A classified tick: a severe one is counted as an errored one too (R138). -/
theorem Interval.lawful_addTick {c : Interval} (h : c.lawful) (k : TickClass) : (c.addTick k).lawful := by
  cases k with
  | unavailable => exact h
  | severe => exact ⟨h.1, satAdd_le_satAdd h.2 le_rfl⟩
  | errored => exact ⟨h.1, BitVec.le_trans h.2 (le_satAdd _ _)⟩
  | clean => exact h

variable {c : Checker} {cfg : StreamConfig} {st : Store} {f : Frame}

theorem Checker.countersLawful.tally (h : c.countersLawful) (o : Bool) {t : Tally} (ht : t.errs ≤ t.bits) :
    (c.tally o t).countersLawful := by
  refine ⟨satAdd_le_satAdd h.1 ht, ?_⟩
  rw [Checker.tally_ivl]
  split
  · exact Interval.lawful_add h.2 ht
  · exact h.2

theorem Checker.countersLawful.closeBurst (h : c.countersLawful) (o : Bool) : (c.closeBurst o).countersLawful := by
  unfold Checker.closeBurst
  split
  · exact h
  · refine ⟨h.1, ?_⟩
    cases o with
    | false => exact h.2
    | true => exact ⟨h.2.1, h.2.2⟩

theorem Checker.countersLawful.burstWord (h : c.countersLawful) (o : Bool) (errs : Nat) :
    (c.burstWord o errs).countersLawful := by
  unfold Checker.burstWord
  split
  · exact h.closeBurst o
  · exact h

theorem Checker.countersLawful.burstWords (h : c.countersLawful) (o : Bool) (errs : List Nat) :
    (errs.foldl (fun c e => c.burstWord o e) c).countersLawful := by
  induction errs generalizing c with
  | nil => exact h
  | cons e errs ih => exact ih (h.burstWord o e)

theorem Checker.countersLawful.verified (h : c.countersLawful) (cfg : StreamConfig) :
    (c.verified cfg).1.countersLawful := by
  unfold Checker.verified
  simp only []
  split <;> exact h

variable (o : Bool)

theorem takeHunt_countersLawful (h : c.countersLawful) : (takeHunt cfg st o f c).1.countersLawful := by
  unfold takeHunt
  split
  · split
    · exact h.tally o le_rfl
    · exact h
  · split
    · exact h
    · simp only []
      split
      · exact h
      · refine Checker.countersLawful.verified ?_ cfg
        exact h

theorem verifyCompare_countersLawful (h : c.countersLawful) : (verifyCompare cfg st o f c).1.countersLawful := by
  unfold verifyCompare
  simp only []
  split
  · exact h.tally o le_rfl
  · refine Checker.countersLawful.verified ?_ cfg
    exact h

theorem takeVerify_countersLawful (h : c.countersLawful) : (takeVerify cfg st o f c).1.countersLawful := by
  unfold takeVerify
  split
  · exact h
  · exact takeHunt_countersLawful o (h.tally o le_rfl)
  · split
    · exact h.tally o (Nat.zero_le _)
    · refine verifyCompare_countersLawful o ?_
      exact h

theorem lockedCompare_countersLawful (h : c.countersLawful) :
    (lockedCompare cfg st o f c).countersLawful := by
  refine Checker.countersLawful.burstWords ?_ o _
  exact h.tally o (t := { bits := 32 * f.words.length, errs := _, compared := 1, errored := _, bad := _ })
    (compareWords_sum_le st cfg.kind cfg.invert f.words c.pat)

theorem settleLock_countersLawful (h : c.countersLawful) : (settleLock cfg o c).1.countersLawful := by
  unfold settleLock
  split
  · exact h.tally o le_rfl
  · exact h

theorem leapGap_countersLawful (h : c.countersLawful) (d : Nat) : (leapGap cfg st o d c).countersLawful := by
  unfold leapGap
  split
  · exact h
  · exact (h.tally o le_rfl).closeBurst o

theorem takeLocked_countersLawful (h : c.countersLawful) : (takeLocked cfg st o f c).1.countersLawful := by
  unfold takeLocked
  split
  · exact h.tally o le_rfl
  · exact takeHunt_countersLawful o (h.tally o le_rfl)
  · split
    · exact settleLock_countersLawful o ((h.tally o le_rfl).closeBurst o)
    · have hgap := leapGap_countersLawful (cfg := cfg) (st := st) o h
      simp only []
      split
      · exact verifyCompare_countersLawful o ((hgap _).tally o le_rfl)
      · exact settleLock_countersLawful o (lockedCompare_countersLawful o (hgap _))

/-- A delivery keeps the inequalities. -/
theorem takeDelivery_countersLawful (h : c.countersLawful) : (takeDelivery cfg st o f c).1.countersLawful := by
  have hreceived := h.tally o (t := { received := 1 }) le_rfl
  unfold takeDelivery
  simp only []
  split
  · exact h
  · exact takeHunt_countersLawful o hreceived
  · exact takeVerify_countersLawful o hreceived
  · exact takeLocked_countersLawful o hreceived
  · exact takeLocked_countersLawful o hreceived

theorem CheckerChange.countersLawful {s : State} {i : Fin 256} (hc : CheckerChange s i c)
    (h : (s.stream i).chk.countersLawful) : c.countersLawful := by
  cases hc with
  | delivered f => exact takeDelivery_countersLawful _ h
  | waited => exact h
  | lapsed => exact h.tally _ le_rfl
  | stale => exact h
  | classified => exact ⟨h.1, Interval.lawful_addTick h.2 _⟩
  | started => exact ⟨h.1, Interval.lawful_zero⟩
  | stopped => exact ⟨h.1, Interval.lawful_zero⟩
  | hunted => exact h
  | unlocked => exact h.tally _ le_rfl

/-! ## The whole part -/

/-- What every checker satisfies, it satisfies after a change of one record to one that does. -/
theorem forall_stream_setStream {Q : Stream → Prop} {s : State} {i : Fin 256} {r : Stream} (hr : Q r)
    (h : ∀ j, Q (s.stream j)) (j : Fin 256) : Q ((s.setStream i r).stream j) := by
  rw [State.stream_setStream]
  split
  · exact hr
  · exact h j

theorem freshMembers_stream (s : State) (g : Fin 4) (j : Fin 256) :
    (freshMembers s g).stream j =
      if (s.stream j).memberOf g then { s.stream j with chk := (s.stream j).chk.freshInterval } else s.stream j :=
  State.stream_mapStreams s _ j

/-- The records an offer leaves were in the ring or in the batch (R148). -/
theorem mem_take_records {ring : Ring} {batch : List Record} {r : Record} (h : r ∈ (ring.take batch).records) :
    r ∈ ring.records ∨ r ∈ batch :=
  (List.mem_append.mp h).imp_right List.mem_of_mem_take

/-- A batch holds records of members, whose checkers are active (R32, R139). -/
theorem recordOf_lawful {s : State} {g : Fin 4} {p : Bool} {r : Record}
    (h : r ∈ (members s g).map (recordOf s g p)) (hs : ∀ i, (s.stream i).chk.countersLawful) :
    r.counts.lawful ∧ r.endState ≠ .off := by
  obtain ⟨i, hi, rfl⟩ := List.mem_map.mp h
  exact ⟨(hs i).2, (mem_members.mp hi).2⟩

theorem Move.counterLaw {s t : State} (hm : Move s t) (h : CounterLaw s) : CounterLaw t := by
  rw [counterLaw_iff] at h ⊢
  obtain ⟨hchk, hrec⟩ := h
  cases hm with
  | outside h => exact ⟨fun i => by rw [h.chk]; exact hchk i, by rw [h.records]; exact hrec⟩
  | checker hc => exact ⟨forall_stream_setStream (Q := fun r => r.chk.countersLawful) (hc.countersLawful (hchk _)) hchk, hrec⟩
  | fresh g =>
    refine ⟨fun i => ?_, hrec⟩
    rw [freshMembers_stream]
    split
    · exact ⟨(hchk i).1, Interval.lawful_zero⟩
    · exact hchk i
  | offered g p =>
    refine ⟨fun i => by rw [State.stream_congr (offer_streams s _)]; exact hchk i, fun r hr => ?_⟩
    rw [offer_ring] at hr
    exact (mem_take_records hr).elim (hrec r) (fun hr => recordOf_lawful hr hchk)
  | released k => exact ⟨hchk, fun r hr => hrec r (List.mem_of_mem_drop hr)⟩
  | lane n hl => exact ⟨hchk, hrec⟩
  | cleared i =>
    exact ⟨forall_stream_setStream (Q := fun r => r.chk.countersLawful) ⟨BitVec.le_refl _, (hchk i).2⟩ hchk, hrec⟩
  | configured cfg =>
    exact ⟨forall_stream_setStream (Q := fun r => r.chk.countersLawful) (hchk _) hchk, hrec⟩
  | engineReset =>
    exact ⟨fun i => by rw [engineReset_stream]; exact Checker.countersLawful_reset, fun r hr => absurd hr List.not_mem_nil⟩

theorem counterLaw_hardwareReset (s : State) : CounterLaw (hardwareReset s) :=
  ⟨fun i => by rw [hardwareReset_stream]; exact Checker.countersLawful_reset,
    fun r hr => absurd hr List.not_mem_nil⟩

/-- Settles O52: every move keeps the inequalities, and a record is made of a member's lawful interval set. -/
theorem everyStepKeepsCounterInequalities : Obligations.EveryStepKeepsCounterInequalities := by
  unfold Obligations.EveryStepKeepsCounterInequalities
  intro s t
  exact step_keeps_of_moves (fun _ _ h => h) counterLaw_hardwareReset (fun _ _ _ h => h) Move.counterLaw

end Sys2Proof.Machine
end

section
/-! SUPPORT. A checker's progress, bad run, burst and silence fit its sync state (R11, R105, R107, R123, R126), through every
change of a checker. -/

namespace Sys2Proof.Machine

/-- The law of checkers for one checker part under a configuration. -/
structure Checker.Fits (cfg : StreamConfig) (c : Checker) : Prop where
  verifyCount : 1 ≤ cfg.verifyCount
  lossCount : 1 ≤ cfg.lossCount
  progress : c.progress ≤ cfg.verifyCount
  verify : c.sync = .verify → c.progress < cfg.verifyCount
  badRun : c.badRun < cfg.lossCount
  burst : c.openBurst ≠ 0 → c.sync = .locked
  off : c.sync = .off → c.progress = 0 ∧ c.badRun = 0 ∧ c.silence = 0 ∧ c.ivl = .zero
  silence : c.silence ≤ 65535

theorem Stream.chkLawful_iff (r : Stream) : r.chkLawful ↔ r.chk.Fits r.config :=
  ⟨fun ⟨hV, hK, hprog, hver, hbad, hburst, hoff, hsil⟩ => ⟨hV, hK, hprog, hver, hbad, hburst, hoff, hsil⟩,
    fun ⟨hV, hK, hprog, hver, hbad, hburst, hoff, hsil⟩ => ⟨hV, hK, hprog, hver, hbad, hburst, hoff, hsil⟩⟩

namespace Checker.Fits

variable {cfg : StreamConfig} {c : Checker}

/-! ## Entries (R105) -/

theorem enterHunt (hV : 1 ≤ cfg.verifyCount) (hK : 1 ≤ cfg.lossCount) (hs : c.silence ≤ 65535) :
    c.enterHunt.Fits cfg where
  verifyCount := hV
  lossCount := hK
  progress := Nat.zero_le _
  verify h := by cases h
  badRun := hK
  burst h := absurd rfl h
  off h := by cases h
  silence := hs

theorem enterVerify (h : c.Fits cfg) : c.enterVerify.Fits cfg where
  verifyCount := h.verifyCount
  lossCount := h.lossCount
  progress := Nat.zero_le _
  verify _ := h.verifyCount
  badRun := h.badRun
  burst h := absurd rfl h
  off h := by cases h
  silence := h.silence

/-- A good frame in VERIFY: progress rises below V, or the checker enters LOCKED at V (R115). -/
theorem verified (h : c.Fits cfg) (hv : c.sync = .verify) : (c.verified cfg).1.Fits cfg := by
  have hlt := h.verify hv
  by_cases hd : c.progress + 1 < cfg.verifyCount
  · rw [Checker.verified_of_lt hd]
    exact { h with
      progress := hd.le
      verify := fun _ => hd
      off := fun ho => by cases hv.symm.trans ho }
  · rw [Checker.verified_of_le (Nat.le_of_not_lt hd)]
    exact { h with
      progress := hlt
      verify := nofun
      badRun := h.lossCount
      burst := fun _ => rfl
      off := nofun }

/-! ## Counting -/

/-- Outside OFF no clause looks at the counter sets, the expected sequence or the pattern state. -/
theorem congr {d : Checker} (h : c.Fits cfg) (hoff : c.sync ≠ .off) (hsync : d.sync = c.sync)
    (hprogress : d.progress = c.progress) (hbadRun : d.badRun = c.badRun) (hburst : d.openBurst = c.openBurst)
    (hsilence : d.silence ≤ 65535) : d.Fits cfg where
  verifyCount := h.verifyCount
  lossCount := h.lossCount
  progress := by rw [hprogress]; exact h.progress
  verify hv := by rw [hprogress]; exact h.verify (hsync ▸ hv)
  badRun := by rw [hbadRun]; exact h.badRun
  burst hb := by rw [hsync]; exact h.burst (hburst ▸ hb)
  off ho := absurd (hsync ▸ ho) hoff
  silence := hsilence

theorem tally (h : c.Fits cfg) (hoff : c.sync ≠ .off) (o : Bool) (t : Tally) : (c.tally o t).Fits cfg :=
  h.congr hoff rfl rfl rfl rfl h.silence

/-! ## Deliveries -/

variable {st : Store} {f : Frame} {o : Bool}

theorem takeHunt (h : c.Fits cfg) (hh : c.sync = .hunt) : (takeHunt cfg st o f c).1.Fits cfg := by
  have hoff : c.sync ≠ .off := by rw [hh]; decide
  have hseeded := fun pat => h.congr (d := { c with pat := pat, expected := f.sequence + 1 }) hoff rfl rfl rfl rfl h.silence
  unfold Machine.takeHunt
  split
  · split
    · exact h.tally hoff o _
    · exact h
  · split
    · exact h
    · simp only []
      split
      · exact hseeded _
      · exact (hseeded _).enterVerify.verified rfl

theorem verifyCompare (h : c.Fits cfg) (hv : c.sync = .verify) : (verifyCompare cfg st o f c).1.Fits cfg := by
  have hoff : c.sync ≠ .off := by rw [hv]; decide
  unfold Machine.verifyCompare
  simp only []
  split
  · exact .enterHunt h.verifyCount h.lossCount h.silence
  · refine verified ?_ hv
    exact h.congr hoff rfl rfl rfl rfl h.silence

theorem takeVerify (h : c.Fits cfg) (hv : c.sync = .verify) : (takeVerify cfg st o f c).1.Fits cfg := by
  have hoff : c.sync ≠ .off := by rw [hv]; decide
  unfold Machine.takeVerify
  split
  · exact h
  · exact takeHunt (.enterHunt h.verifyCount h.lossCount h.silence) rfl
  · split
    · exact .enterHunt h.verifyCount h.lossCount h.silence
    · refine verifyCompare ?_ hv
      exact h.congr hoff rfl rfl rfl rfl h.silence

/-- The end of an in-sequence frame: a bad run of K goes to HUNT, a shorter one stays in LOCKED (R119, R122). -/
theorem settleLock (hV : 1 ≤ cfg.verifyCount) (hK : 1 ≤ cfg.lossCount) (hp : c.progress ≤ cfg.verifyCount)
    (hs : c.silence ≤ 65535) : (settleLock cfg o c).1.Fits cfg := by
  unfold Machine.settleLock
  split
  case isTrue => exact .enterHunt hV hK hs
  case isFalse hrun =>
    exact
      { verifyCount := hV
        lossCount := hK
        progress := hp
        verify := nofun
        badRun := Nat.lt_of_not_le hrun
        burst := fun _ => rfl
        off := nofun
        silence := hs }

end Checker.Fits

theorem Checker.burstWord_progress (c : Checker) (o : Bool) (e : Nat) : (c.burstWord o e).progress = c.progress := by
  unfold Checker.burstWord; split <;> simp

theorem Checker.burstWord_silence (c : Checker) (o : Bool) (e : Nat) : (c.burstWord o e).silence = c.silence := by
  unfold Checker.burstWord; split <;> simp

/-- The burst monitor's words leave progress and silence alone. -/
theorem Checker.burstWords_progress_silence (c : Checker) (o : Bool) (errs : List Nat) :
    (errs.foldl (fun c e => c.burstWord o e) c).progress = c.progress
      ∧ (errs.foldl (fun c e => c.burstWord o e) c).silence = c.silence := by
  induction errs generalizing c with
  | nil => exact ⟨rfl, rfl⟩
  | cons e errs ih =>
    obtain ⟨hp, hs⟩ := ih (c.burstWord o e)
    exact ⟨hp.trans (c.burstWord_progress o e), hs.trans (c.burstWord_silence o e)⟩

section
variable (cfg : StreamConfig) (st : Store) (o : Bool) (d : Nat) (f : Frame) (c : Checker)

theorem lockedCompare_progress_silence :
    (lockedCompare cfg st o f c).progress = c.progress ∧ (lockedCompare cfg st o f c).silence = c.silence :=
  Checker.burstWords_progress_silence _ o _

theorem lostLength_progress_silence :
    (lostLength cfg st o d f c).progress = c.progress ∧ (lostLength cfg st o d f c).silence = c.silence := by
  simp [lostLength]

theorem leapGap_progress_silence :
    (leapGap cfg st o d c).progress = c.progress ∧ (leapGap cfg st o d c).silence = c.silence := by
  unfold leapGap; split <;> simp

@[simp] theorem leapGap_badRun : (leapGap cfg st o d c).badRun = c.badRun := by
  unfold leapGap; split <;> simp

end

namespace Checker.Fits

variable {cfg : StreamConfig} {c : Checker} {st : Store} {f : Frame} {o : Bool}

/-- An alignment slip enters VERIFY with the bad run kept (R67). -/
theorem alignmentSlip (hV : 1 ≤ cfg.verifyCount) (hbad : c.badRun < cfg.lossCount) (hs : c.silence ≤ 65535) :
    (alignmentSlip cfg st o f c).1.Fits cfg :=
  verifyCompare (hv := rfl)
    { verifyCount := hV
      lossCount := by omega
      progress := Nat.zero_le _
      verify := fun _ => hV
      badRun := hbad
      burst := fun h => absurd rfl h
      off := nofun
      silence := hs }

theorem takeLocked (h : c.Fits cfg) (hoff : c.sync ≠ .off) : (takeLocked cfg st o f c).1.Fits cfg := by
  unfold Machine.takeLocked
  split
  case h_1 => exact h.tally hoff o _
  case h_2 => exact takeHunt (.enterHunt h.verifyCount h.lossCount h.silence) rfl
  case h_3 d _ =>
    split
    · obtain ⟨hp, hs⟩ := lostLength_progress_silence cfg st o d f c
      exact settleLock h.verifyCount h.lossCount (hp ▸ h.progress) (hs ▸ h.silence)
    · obtain ⟨hp, hs⟩ := leapGap_progress_silence cfg st o d c
      simp only []
      split
      · exact alignmentSlip h.verifyCount (by simpa using h.badRun) (hs ▸ h.silence)
      · obtain ⟨hp', hs'⟩ := lockedCompare_progress_silence cfg st o f (leapGap cfg st o d c)
        exact settleLock h.verifyCount h.lossCount (by rw [hp', hp]; exact h.progress) (by rw [hs', hs]; exact h.silence)

/-- A delivery keeps the law (R109). -/
theorem takeDelivery (h : c.Fits cfg) : (takeDelivery cfg st o f c).1.Fits cfg := by
  have hreceived := fun hoff =>
    h.congr (d := { c.tally o { received := 1 } with silence := 0 }) hoff rfl rfl rfl rfl (Nat.zero_le _)
  unfold Machine.takeDelivery
  simp only []
  split
  case h_1 => exact h
  case h_2 hs => exact takeHunt (hreceived (by rw [hs]; decide)) hs
  case h_3 hs => exact takeVerify (hreceived (by rw [hs]; decide)) hs
  case h_4 hs => exact takeLocked (hreceived (by rw [hs]; decide)) (by rw [Checker.tally_sync, hs]; decide)
  case h_5 hs => exact takeLocked (hreceived (by rw [hs]; decide)) (by rw [Checker.tally_sync, hs]; decide)

end Checker.Fits

/-! ## The whole part -/

theorem Checker.nextSilence_le (c : Checker) : c.nextSilence ≤ 65535 := Nat.min_le_right _ _

/-- Every change of a checker keeps the law. -/
theorem CheckerChange.fits {s : State} {i : Fin 256} {c : Checker} (hc : CheckerChange s i c)
    (h : (s.stream i).chk.Fits (s.stream i).config) : c.Fits (s.stream i).config := by
  cases hc with
  | delivered f => exact h.takeDelivery
  | waited ht =>
    have hoff : (s.stream i).chk.sync ≠ .off := by
      rcases (Checker.timed_iff _).mp ht with hs | hs <;> rw [hs] <;> decide
    exact h.congr hoff rfl rfl rfl rfl (Checker.nextSilence_le _)
  | lapsed => exact .enterHunt h.verifyCount h.lossCount (Checker.nextSilence_le _)
  | stale hl =>
    exact { h with
      verify := nofun
      burst := fun hb => absurd rfl hb
      off := nofun
      silence := Checker.nextSilence_le _ }
  | classified hoff => exact h.congr hoff rfl rfl rfl rfl h.silence
  | started =>
    have hhunt := Checker.Fits.enterHunt (c := (s.stream i).chk) h.verifyCount h.lossCount h.silence
    exact hhunt.congr nofun rfl rfl rfl rfl (Nat.zero_le _)
  | stopped =>
    exact { h with
      progress := Nat.zero_le _
      verify := nofun
      badRun := h.lossCount
      burst := fun hb => absurd rfl hb
      off := fun _ => ⟨rfl, rfl, rfl, rfl⟩
      silence := Nat.zero_le _ }
  | hunted => exact .enterHunt h.verifyCount h.lossCount h.silence
  | unlocked => exact .enterHunt h.verifyCount h.lossCount h.silence

theorem Checker.Fits.freshInterval {cfg : StreamConfig} {c : Checker} (h : c.Fits cfg) : c.freshInterval.Fits cfg :=
  { h with
    off := fun ho =>
      have ⟨hp, hb, hs, _⟩ := h.off ho
      ⟨hp, hb, hs, rfl⟩ }

theorem Stream.inactive_iff (r : Stream) : r.active = false ↔ r.gen.state = .idle ∧ r.chk.sync = .off := by
  simp [Stream.active, Generator.active, Checker.active]

/-- An OFF checker fits any configuration in range. -/
theorem Checker.Fits.reconfigure {cfg cfg' : StreamConfig} {c : Checker} (h : c.Fits cfg) (hoff : c.sync = .off)
    (hrange : cfg'.lawful) : c.Fits cfg' := by
  obtain ⟨-, -, -, -, -, hV, -, hK, -⟩ := hrange
  obtain ⟨hp, hb, -, -⟩ := h.off hoff
  exact { h with
    verifyCount := hV
    lossCount := hK
    progress := by omega
    verify := fun hv => by cases hoff.symm.trans hv
    badRun := by omega }

theorem Stream.chkLawful_reset : Stream.reset.chkLawful := by
  simp [Stream.chkLawful, Stream.reset, Checker.reset, StreamConfig.reset]

theorem Move.checkerLaw {s t : State} (hm : Move s t) (h : CheckerLaw s) : CheckerLaw t := by
  have hfits := fun i => (Stream.chkLawful_iff _).mp (h i)
  cases hm with
  | outside h' =>
    intro i
    rw [Stream.chkLawful_iff, h'.config, h'.chk]
    exact hfits i
  | checker hc => exact forall_stream_setStream ((Stream.chkLawful_iff _).mpr (hc.fits (hfits _))) h
  | fresh g =>
    intro i
    rw [freshMembers_stream]
    split
    · exact (Stream.chkLawful_iff _).mpr (hfits i).freshInterval
    · exact h i
  | offered g p =>
    intro i
    rw [State.stream_congr (offer_streams s _)]
    exact h i
  | released k => exact h
  | lane n hl => exact h
  | cleared i => exact forall_stream_setStream (Q := Stream.chkLawful) (h i) h
  | configured cfg hidle hrange =>
    have hoff := ((Stream.inactive_iff _).mp hidle).2
    exact forall_stream_setStream ((Stream.chkLawful_iff _).mpr ((hfits _).reconfigure hoff hrange)) h
  | engineReset =>
    intro i
    rw [engineReset_stream]
    exact Stream.chkLawful_reset

/-- Settles O56: every change of a checker fits, and SET_STREAM meets an OFF checker. -/
theorem everyStepKeepsCheckerLaw : Obligations.EveryStepKeepsCheckerLaw := by
  unfold Obligations.EveryStepKeepsCheckerLaw
  intro s t
  refine step_keeps_of_moves (fun _ _ h => h) (fun s i => ?_) (fun _ _ _ h => h) Move.checkerLaw
  rw [hardwareReset_stream]
  exact Stream.chkLawful_reset

end Sys2Proof.Machine
end

section
/-! SUPPORT. The part under a hardware reset takes no event but the release (R172), and a running part keeps absent lanes
unused and its configurations in range (R3, R5, R7, R8, R38). -/

namespace Sys2Proof.Machine

/-! ## Under a hardware reset -/

variable {s t : State}

theorem State.ready_of_inReset (h : s.inReset = true) : s.ready = none := by simp [State.ready, h]

theorem State.takes_of_inReset (h : s.inReset = true) (l : Fin 16) : s.takes l = false := by simp [State.takes, h]

theorem runCommand_of_inReset (h : s.inReset = true) (row : Instr) (act : List Word → State → Answer × State) :
    runCommand row act s = .next s := by
  simp [runCommand, State.ready_of_inReset h]

/-- While a hardware reset holds the part, no event but the two reset events and the end of a pulse has an effect (R172). -/
theorem exec_of_inReset (h : s.inReset = true) {c : Instr} (hreset : c ≠ .hardwareReset)
    (hrelease : ∀ a n, c ≠ .resetRelease a n) (hpulse : c ≠ .gateOutPulseEnd) : exec c s = .next s := by
  have htakes := State.takes_of_inReset h
  cases c with
  | hardwareReset => exact absurd rfl hreset
  | resetRelease a n => exact absurd rfl (hrelease a n)
  | gateOutPulseEnd => exact absurd rfl hpulse
  | clientInArrival l f => simp [exec, execClientInArrival, htakes]
  | lineInArrival l f b => simp [exec, execLineInArrival, htakes]
  | lineOutOpportunity l => simp [exec, execLineOutOpportunity, htakes]
  | pacingExpiry i => simp [exec, execPacingExpiry, h]
  | rateInjection i w => simp [exec, execRateInjection, h]
  | clientOutOpportunity l => simp [exec, execClientOutOpportunity, htakes]
  | waitingReplyEntry => simp [exec, execWaitingReplyEntry, h]
  | t1ms order => simp [exec, execT1ms, h]
  | t10ms order => simp [exec, execT10ms, h]
  | t100ms order => simp [exec, execT100ms, h]
  | t1s order => simp [exec, execT1s, h]
  | syncIn order => simp [exec, execSyncIn, h]
  | silenceExpiry i => simp [exec, execSilenceExpiry, h]
  | intervalEnd g => simp [exec, execIntervalEnd, h]
  | clearCompletion =>
    simp only [exec, execClearCompletion, h, if_true]
    split <;> rfl
  | wipeCompletion => simp [exec, execWipeCompletion, h]
  | unknownCommand => simp [exec, execUnknownCommand, State.ready_of_inReset h]
  | _ => exact runCommand_of_inReset h _ _

/-! ## A running part -/

/-- A configuration is in range and its lanes are present (R5, R7, R8, R38). -/
def State.accepts (s : State) (c : StreamConfig) : Prop :=
  c.lawful ∧ s.present c.egressLane = true ∧ s.present c.ingressLane = true

/-- Absent lanes are unused, and every stream has an accepted configuration. -/
def State.presenceKept (s : State) : Prop :=
  (∀ l, s.present l = false → (s.lane l).unused) ∧ ∀ i, s.accepts (s.stream i).config

theorem presenceLaw_iff : PresenceLaw s ↔ (s.inReset = true → s = hardwareReset s) ∧ s.presenceKept := Iff.rfl

theorem Lane.unused_reset : Lane.reset.unused := ⟨rfl, rfl, rfl, rfl, rfl⟩

/-- The reset configuration names lane 0, which is always populated (R21, R38). -/
theorem State.accepts_reset (s : State) : s.accepts StreamConfig.reset :=
  ⟨by simp [StreamConfig.lawful, StreamConfig.reset], s.present_zero, s.present_zero⟩

/-- With every lane and every stream in reset, whatever the straps say. -/
theorem presenceKept_of_reset (hlane : ∀ l, s.lane l = Lane.reset) (hstream : ∀ i, s.stream i = Stream.reset) :
    s.presenceKept :=
  ⟨fun l _ => by rw [hlane]; exact Lane.unused_reset, fun i => by rw [hstream]; exact s.accepts_reset⟩

theorem Move.inReset (h : Move s t) : t.inReset = s.inReset := by
  cases h with
  | outside h => exact h.inReset
  | offered g p => exact offer_inReset s _
  | _ => rfl

/-- An engine reset leaves an unused lane unused (R54). -/
theorem Lane.unused.engineReset {n : Lane} (h : n.unused) : n.engineReset.unused := by
  obtain ⟨-, -, heg, hing, -⟩ := h
  exact ⟨rfl, rfl, heg, hing, rfl⟩

theorem Move.presenceKept (hm : Move s t) (h : s.presenceKept) : t.presenceKept := by
  obtain ⟨hlane, hcfg⟩ := h
  cases hm with
  | outside h' =>
    refine ⟨fun l hl => ?_, fun i => ?_⟩
    · rw [State.lane_congr h'.lanes]
      exact hlane l (State.present_congr h'.strap l ▸ hl)
    · unfold State.accepts
      rw [h'.config, State.present_congr h'.strap, State.present_congr h'.strap]
      exact hcfg i
  | checker hc => exact ⟨hlane, forall_stream_setStream (Q := fun r => s.accepts r.config) (hcfg _) hcfg⟩
  | fresh g =>
    refine ⟨hlane, fun i => ?_⟩
    rw [freshMembers_stream]
    split <;> exact hcfg i
  | offered g p =>
    refine ⟨fun l hl => ?_, fun i => ?_⟩
    · rw [State.lane_congr (offer_lanes s _)]
      exact hlane l (State.present_congr (offer_lanesStrap s _) l ▸ hl)
    · unfold State.accepts
      rw [State.stream_congr (offer_streams s _), State.present_congr (offer_lanesStrap s _),
        State.present_congr (offer_lanesStrap s _)]
      exact hcfg i
  | released k => exact ⟨hlane, hcfg⟩
  | @lane l n hpresent =>
    refine ⟨fun m hm => ?_, hcfg⟩
    rw [State.lane_setLane]
    split
    case isTrue heq => exact absurd (heq ▸ hpresent) (Bool.eq_false_iff.mp hm)
    case isFalse => exact hlane m hm
  | cleared i => exact ⟨hlane, forall_stream_setStream (Q := fun r => s.accepts r.config) (hcfg i) hcfg⟩
  | configured cfg hidle hrange heg hing =>
    exact ⟨hlane, forall_stream_setStream (Q := fun r => s.accepts r.config) ⟨hrange, heg, hing⟩ hcfg⟩
  | engineReset =>
    refine ⟨fun l hl => ?_, fun i => ?_⟩
    · rw [engineReset_lane]
      exact (hlane l hl).engineReset
    · rw [engineReset_stream]
      exact s.accepts_reset

/-! ## The whole part -/

theorem presenceLaw_hardwareReset (s : State) : PresenceLaw (hardwareReset s) :=
  ⟨fun _ => rfl, presenceKept_of_reset (hardwareReset_lane s) (hardwareReset_stream s)⟩

/-- A pulse's end under a hardware reset: no pulse runs. -/
theorem pulseEnd_of_hardwareReset (h : s = hardwareReset s) : { s with pulses := s.pulses - 1 } = s := by
  have hpulses : s.pulses = 0 := by rw [h]; rfl
  have hpulse : s.pulses - 1 = s.pulses := by omega
  rw [hpulse]

theorem exec_presenceLaw_of_inReset (hr : s.inReset = true) {c : Instr} (h : exec c s = .next t) (hs : PresenceLaw s) :
    PresenceLaw t := by
  have hheld := hs.1 hr
  by_cases hreset : c = .hardwareReset
  · subst hreset
    cases h
    exact presenceLaw_hardwareReset s
  by_cases hpulse : c = .gateOutPulseEnd
  · subst hpulse
    cases h
    rw [pulseEnd_of_hardwareReset hheld]
    exact hs
  by_cases hrelease : ∃ a n, c = .resetRelease a n
  · obtain ⟨a, n, rfl⟩ := hrelease
    simp only [exec, execResetRelease, hr, if_true] at h
    cases h
    refine ⟨nofun, presenceKept_of_reset (fun l => ?_) (fun i => ?_)⟩
    · show s.lane l = Lane.reset
      rw [hheld, hardwareReset_lane]
    · show s.stream i = Stream.reset
      rw [hheld, hardwareReset_stream]
  · rw [exec_of_inReset hr hreset (fun a n hc => hrelease ⟨a, n, hc⟩) hpulse] at h
    cases h
    exact hs

theorem exec_presenceLaw_of_running (hr : s.inReset = false) {c : Instr} (h : exec c s = .next t) (hs : PresenceLaw s) :
    PresenceLaw t := by
  obtain rfl | ⟨hreset, -⟩ | hchain := exec_cases h
  · exact presenceLaw_hardwareReset s
  · exact absurd hreset (Bool.eq_false_iff.mp hr)
  · obtain ⟨hrun, hkept⟩ := hchain.keeps (P := fun u => u.inReset = false ∧ u.presenceKept)
      (fun hm hu => ⟨hm.inReset.trans hu.1, hm.presenceKept hu.2⟩) ⟨hr, hs.2⟩
    exact ⟨fun h => absurd h (Bool.eq_false_iff.mp hrun), hkept⟩

/-- Settles O59: under a reset the part stays as it is until the release; running, every move keeps it. -/
theorem everyStepKeepsPresenceLaw : Obligations.EveryStepKeepsPresenceLaw := by
  unfold Obligations.EveryStepKeepsPresenceLaw
  intro s t
  refine step_keeps (fun s q h => ?_) (fun {c s t} hc hs => ?_)
  · refine ⟨fun hr => ?_, h.2⟩
    have hheld := h.1 hr
    show { s with pending := q } = { hardwareReset s with pending := q }
    rw [← hheld]
  · cases hr : s.inReset with
    | true => exact exec_presenceLaw_of_inReset hr hc hs
    | false => exact exec_presenceLaw_of_running hr hc hs

end Sys2Proof.Machine
end

section
/-! SUPPORT. The reset values, and every law at the reset state (R21, R33, R54, R84, R146, R155, R164, R172). -/

namespace Sys2Proof.Machine

/-- Settles O5, each block by its reset value and each table by its reset entry. -/
theorem resetValues : Obligations.ResetValues := by
  unfold Obligations.ResetValues
  refine ⟨rfl, rfl, rfl, rfl, State.reset_stream, fun l => ?_, rfl, State.reset_seg, rfl, rfl, rfl, State.reset_pattern,
    State.reset_gate, rfl, rfl, rfl, rfl, rfl, State.reset_policy, rfl, fun s => rfl⟩
  rw [State.reset_lane]
  exact ⟨rfl, rfl, rfl, rfl, rfl, rfl⟩

theorem queueLaw_reset : QueueLaw State.reset := by
  refine ⟨fun l => ?_, by decide, by decide, by decide, nofun, by decide, by decide, by decide, by decide⟩
  rw [State.reset_lane]
  decide

theorem pendingLaw_reset : PendingLaw State.reset := by
  refine ⟨List.nodup_nil, fun i => ?_, fun i => ?_, by decide⟩
  · rw [State.reset_stream]
    exact ⟨nofun, fun h => absurd rfl h⟩
  · rw [State.reset_stream]
    decide

theorem counterLaw_reset : CounterLaw State.reset :=
  ⟨fun i => by rw [State.reset_stream]; exact Checker.countersLawful_reset, fun _ hr => absurd hr List.not_mem_nil⟩

theorem gateLaw_reset : GateLaw State.reset := by
  intro g
  rw [State.reset_gate]
  exact ⟨by decide, by decide, nofun, nofun⟩

theorem windowLaw_reset : WindowLaw State.reset := by
  refine ⟨rfl, fun i h => ?_⟩
  rw [State.reset_stream] at h
  cases h

theorem generatorLaw_reset : GeneratorLaw State.reset := by
  refine ⟨fun i => ?_, fun l _ => by rw [State.reset_lane]; rfl⟩
  rw [State.reset_stream]
  exact ⟨nofun, nofun, nofun, nofun, by decide⟩

theorem checkerLaw_reset : CheckerLaw State.reset := by
  intro i
  rw [State.reset_stream]
  exact Stream.chkLawful_reset

/-- The store after a reset: every segment FAULTED, no clear queued or running, every pattern UNDEFINED (R84). -/
theorem storeLaw_reset : StoreLaw State.reset := by
  refine ⟨rfl, fun g => ?_, ⟨List.nodup_nil, by decide, fun g => ?_, fun g => ?_, fun h => absurd rfl h⟩, fun p => ?_⟩
  · rw [State.reset_seg]
    rfl
  · rw [State.reset_seg]
    exact ⟨nofun, nofun⟩
  · rw [State.reset_seg]
    exact ⟨nofun, nofun⟩
  · rw [State.reset_pattern]
    exact ⟨nofun, nofun, nofun⟩

/-- No side of a stream in reset is active, so none uses a pattern (R83). -/
theorem sidesOn_reset (p : Fin 32) : State.reset.sidesOn p = 0 := by
  refine List.sum_eq_zero fun n hn => ?_
  obtain ⟨i, -, rfl⟩ := List.mem_map.mp hn
  rw [State.reset_stream]
  rfl

theorem useLaw_reset : UseLaw State.reset := by
  intro p
  rw [State.reset_pattern, sidesOn_reset]
  exact ⟨rfl, nofun⟩

theorem presenceLaw_reset : PresenceLaw State.reset :=
  ⟨nofun, presenceKept_of_reset State.reset_lane State.reset_stream⟩

/-- Settles O49, law by law. -/
theorem lawsHoldAfterReset : Obligations.LawsHoldAfterReset := by
  unfold Obligations.LawsHoldAfterReset
  exact ⟨queueLaw_reset, pendingLaw_reset, counterLaw_reset, gateLaw_reset, windowLaw_reset, generatorLaw_reset,
    checkerLaw_reset, storeLaw_reset, useLaw_reset, presenceLaw_reset⟩

end Sys2Proof.Machine
end

section
/-! SUPPORT. The checker's counter updates: saturation (R16), the burst monitor and its histogram (R14, R125, R126). -/

namespace Sys2Proof.Machine

theorem satAdd_toNat_of_lt {w : Nat} {c : BitVec w} {d : Nat} (h : c.toNat + d < 2 ^ w) :
    (satAdd c d).toNat = c.toNat + d := by
  rw [satAdd_toNat]
  omega

theorem satAdd_toNat_of_le {w : Nat} {c : BitVec w} {d : Nat} (h : 2 ^ w ≤ c.toNat + d) :
    (satAdd c d).toNat = 2 ^ w - 1 := by
  rw [satAdd_toNat]
  omega

theorem Checker.burstWord_of_ne {errs : Nat} (c : Checker) (o : Bool) (h : errs ≠ 0) :
    c.burstWord o errs = { c with openBurst := satAdd c.openBurst 1 } :=
  if_neg h

theorem Checker.burstWord_zero (c : Checker) (o : Bool) : c.burstWord o 0 = c.closeBurst o := rfl

theorem Checker.closeBurst_of_eq {c : Checker} (o : Bool) (h : c.openBurst = 0) : c.closeBurst o = c := if_pos h

theorem Checker.closeBurst_of_ne {c : Checker} (o : Bool) (h : c.openBurst ≠ 0) :
    c.closeBurst o =
      { c with
        openBurst := 0
        cum := c.cum.addBurst c.openBurst
        ivl := if o then c.ivl.addBurst c.openBurst else c.ivl } :=
  if_neg h

/-- The bin of a burst length (R14). -/
theorem burstBin_val (n : Nat) :
    (burstBin n).val =
      if n ≤ 1 then 0 else if n ≤ 3 then 1 else if n ≤ 7 then 2 else if n ≤ 15 then 3 else if n ≤ 63 then 4
      else if n ≤ 255 then 5 else if n ≤ 1023 then 6 else 7 := by
  unfold burstBin
  split_ifs <;> rfl

/-- Settles O23: the tally by its definition, the burst monitor word by word, the bins, and the two cases of saturation. -/
theorem burstMonitorAndSaturation : Obligations.BurstMonitorAndSaturation := by
  unfold Obligations.BurstMonitorAndSaturation
  refine ⟨fun c o t => rfl, fun c o errs => ⟨c.burstWord_of_ne o, fun h hb => ?_, fun h hb => ?_⟩, fun n hn => ?_,
    fun w c d => ⟨satAdd_toNat_of_lt, satAdd_toNat_of_le⟩⟩
  · rw [h, Checker.burstWord_zero, Checker.closeBurst_of_eq o hb]
  · rw [h, Checker.burstWord_zero, Checker.closeBurst_of_ne o hb]
    rfl
  · have hone : n ≤ 1 ↔ n = 1 := by omega
    rw [burstBin_val, if_congr hone rfl rfl]

end Sys2Proof.Machine
end

section
/-! SUPPORT. What an executed command leaves: its checks one by one, a refusal, or its action's state and answer. -/

namespace Sys2Proof.Machine

variable {s : State} {code : Byte} {f : ControlFrame} {rest : List ControlFrame}

/-- The part after an execution whose action left this answer and this state (R166). -/
def finish (f : ControlFrame) (r : Answer × State) : State := r.2.replied f r.1

theorem Executing.exec_eq (h : Executing s code f rest) {row : Instr} (hrow : rowOfCode code.toNat = row)
    (act : List Word → State → Answer × State) :
    runCommand row act s = .next (finish f (act f.args (s.dequeue rest))) :=
  h.run row hrow act

@[simp] theorem finish_mk (a : Answer) (t : State) : finish f (a, t) = t.replied f a := rfl

@[simp] theorem finish_badLength : finish f (badLength (s.dequeue rest)) = s.refuses f rest .badLength := rfl

@[simp] theorem finish_checked_nil (k : Answer × State) : finish f (checked [] (s.dequeue rest) k) = finish f k := rfl

/-- A check that fails refuses the command with its status; one that passes leaves it to the rest. -/
@[simp] theorem finish_checked_cons (b : Bool) (st : Status) (cs : List (Bool × Status)) (k : Answer × State) :
    finish f (checked ((b, st) :: cs) (s.dequeue rest) k) =
      if b = true then finish f (checked cs (s.dequeue rest) k) else s.refuses f rest st := by
  rw [checked_cons]
  split <;> rfl

@[simp] theorem State.dequeue_stream (i : Fin 256) : (s.dequeue rest).stream i = s.stream i := rfl
@[simp] theorem State.dequeue_present (l : Fin 16) : (s.dequeue rest).present l = s.present l := rfl

/-- A check written as what passes, and the statement written as what is refused. -/
theorem ite_pass_eq_ite_refuse {α : Type} {p q : Prop} [Decidable p] [Decidable q] {x y r : α} (hpq : p ↔ ¬ q)
    (hxy : ¬ q → x = y) : (if p then x else r) = if q then r else y := by
  by_cases hq : q
  · rw [if_pos hq, if_neg (fun hp => hpq.mp hp hq)]
  · rw [if_neg hq, if_pos (hpq.mpr hq), hxy hq]

theorem index_val {n : Nat} [NeZero n] {w : Word} (h : w.toNat < n) : (index n w).val = w.toNat :=
  Nat.mod_eq_of_lt h

theorem State.present_index {w : Word} (h : w.toNat < 16) : s.present (index 16 w) = true ↔ w.toNat < s.populated := by
  rw [State.present, decide_eq_true_iff, index_val h]

end Sys2Proof.Machine
end

section
/-! SUPPORT. RESET_ENGINE (R171). -/

namespace Sys2Proof.Machine

/-- A segment outside a wipe's store is kept when it is loaded, and FAULTED otherwise (R85). -/
theorem segment_engineReset (mode : StoreMode) (x : Segment) :
    (if mode = .wiping then Segment.faulty else x.engineReset) =
      if mode = .normal ∧ (x.state = .blank ∨ x.state = .partly ∨ x.state = .full) then x
      else { state := .faulted, fill := 0 } := by
  obtain ⟨state, fill⟩ := x
  cases mode with
  | wiping => rfl
  | normal => cases state <;> rfl

theorem Store.engineReset_eq (st : Store) :
    st.engineReset =
      { segs := tableMap
          (fun x => if st.mode = .normal ∧ (x.state = .blank ∨ x.state = .partly ∨ x.state = .full) then x
            else { state := .faulted, fill := 0 }) st.segs
        mem := st.mem
        mode := .normal
        clearing := none
        clearQueue := []
        patterns := tableMap (fun e => { e with uses := 0 }) st.patterns } := by
  rw [Store.engineReset, funext (segment_engineReset st.mode)]

/-- A table with every entry replaced by one value. -/
theorem tableMap_const {α : Type} {n : Nat} (a : α) (v : Vector α n) : tableMap (fun _ => a) v = Vector.replicate n a := by
  apply Vector.ext
  intro i hi
  simp

theorem engineReset_eq (s : State) :
    engineReset s =
      { s with
        streams := State.reset.streams
        lanes := tableMap Lane.engineReset s.lanes
        window := .reset
        store := s.store.engineReset
        gates := State.reset.gates
        ring := .reset
        events := .reset
        agent := { s.agent with outbound := s.agent.outbound.filter (fun o => !o.notice) } } := by
  rw [engineReset, tableMap_const, tableMap_const]
  rfl

theorem resetEngineAct_cons (w : Word) (ws : List Word) (s : State) : resetEngineAct (w :: ws) s = badLength s := rfl

end Sys2Proof.Machine

/-! The model has a function of this name, so the theorem stands in a namespace of its own. -/

namespace Sys2Proof.Settled

open Sys2Proof.Machine

/-- Settles O32: the action is the engine reset of the state behind the dequeued frame. -/
theorem engineReset : Obligations.EngineReset := by
  unfold Obligations.EngineReset
  intro s f rest h
  have hrun := h.exec_eq (row := .resetEngine) rfl resetEngineAct
  refine ⟨fun hargs => ?_, fun hargs => ?_⟩
  · rw [hargs] at hrun
    refine hrun.trans ?_
    rw [resetEngineAct, engineReset_eq, Store.engineReset_eq]
    rfl
  · obtain ⟨w, ws, hcons⟩ := List.exists_cons_of_ne_nil hargs
    rw [hcons, resetEngineAct_cons] at hrun
    exact hrun

end Sys2Proof.Settled
end

section
/-! SUPPORT. The commands of the Stream Table: SET_STREAM, CLEAR_COUNTS and READ_STREAM (R17 to R20). -/

namespace Sys2Proof.Machine

/-! ## SET_STREAM and CLEAR_COUNTS -/

theorem setStreamAct_of_length {ws : List Word} (h : ws.length ≠ 16) (s : State) : setStreamAct ws s = badLength s := by
  unfold setStreamAct
  split
  · exact absurd rfl h
  · rfl

theorem clearCountsAct_of_length {ws : List Word} (h : ws.length ≠ 1) (s : State) : clearCountsAct ws s = badLength s := by
  unfold clearCountsAct
  split
  · exact absurd rfl h
  · rfl

theorem readStreamAct_of_length {ws : List Word} (h : ws.length ≠ 1) (s : State) : readStreamAct ws s = badLength s := by
  unfold readStreamAct
  split
  · exact absurd rfl h
  · rfl

/-- R17's checks in order, consecutive checks with one status taken together, and the record of an accepted SET_STREAM. -/
theorem finish_setStreamAct (s : State) (f : ControlFrame) (rest : List ControlFrame)
    (w eg ing kind inv fixed user len pace gate leap ver loss bad sev sil : Word) :
    finish f (setStreamAct
        [w, eg, ing, kind, inv, fixed, user, len, pace, gate, leap, ver, loss, bad, sev, sil] (s.dequeue rest)) =
      if 255 < w.toNat then s.refuses f rest .outOfRange
      else if (s.stream (index 256 w)).gen.state ≠ .idle ∨ (s.stream (index 256 w)).chk.sync ≠ .off then
        s.refuses f rest .active
      else if 15 < eg.toNat ∨ 15 < ing.toNat then s.refuses f rest .outOfRange
      else if s.populated ≤ eg.toNat ∨ s.populated ≤ ing.toNat then s.refuses f rest .noLane
      else if 7 < kind.toNat ∨ 1 < inv.toNat then s.refuses f rest .outOfRange
      else if kind = 7 ∧ 31 < user.toNat then s.refuses f rest .outOfRange
      else if len.toNat < 4 ∨ 255 < len.toNat ∨ pace.toNat < 1 ∨ 4095 < pace.toNat ∨ 3 < gate.toNat
          ∨ 15 < leap.toNat ∨ ver.toNat < 1 ∨ 15 < ver.toNat ∨ loss.toNat < 1 ∨ 15 < loss.toNat
          ∨ bad.toNat < 1 ∨ 8160 < bad.toNat ∨ sev.toNat < 1 ∨ 16777215 < sev.toNat ∨ 65535 < sil.toNat then
        s.refuses f rest .outOfRange
      else
        ((s.dequeue rest).setStream (index 256 w)
          { s.stream (index 256 w) with
            configured := true
            config := configOf eg ing kind inv fixed user len pace gate leap ver loss bad sev sil }).replied
          f (.good []) := by
  simp only [setStreamAct, finish_checked_cons, finish_checked_nil, finish_mk, State.dequeue_stream, State.dequeue_present,
    inRange_iff, Bool.not_eq_true', Stream.inactive_iff, Bool.or_eq_true, bne_iff_ne, ← ite_and, ← ite_or]
  refine ite_pass_eq_ite_refuse (by omega) fun hw => ?_
  refine ite_pass_eq_ite_refuse (by tauto) fun hidle => ?_
  refine ite_pass_eq_ite_refuse (by omega) fun hlanes => ?_
  refine ite_pass_eq_ite_refuse ?_ fun hpresent => ?_
  · rw [State.present_index (by omega), State.present_index (by omega)]
    omega
  refine ite_pass_eq_ite_refuse ?_ fun _ => rfl
  have hseven : kind = 7 ↔ kind.toNat = 7 := BitVec.toNat_inj.symm
  rw [ne_eq, hseven]
  omega

/-- Settles O33, by R17's checks one status after another and by CLEAR_COUNTS's one check. -/
theorem setStreamAndClearCounts : Obligations.SetStreamAndClearCounts := by
  unfold Obligations.SetStreamAndClearCounts
  refine ⟨fun s f rest h => ⟨?_, fun hlen => ?_⟩, fun s f rest h => ⟨fun w hargs => ?_, fun hlen => ?_⟩⟩
  · intro w eg ing kind inv fixed user len pace gate leap ver loss bad sev sil hargs
    refine (h.exec_eq (row := .setStream) rfl setStreamAct).trans ?_
    rw [hargs, finish_setStreamAct]
    rfl
  · refine (h.exec_eq (row := .setStream) rfl setStreamAct).trans ?_
    rw [setStreamAct_of_length hlen, finish_badLength]
  · refine (h.exec_eq (row := .clearCounts) rfl clearCountsAct).trans ?_
    rw [hargs, clearCountsAct, finish_checked_cons, finish_checked_nil, finish_mk]
    refine congrArg _ (ite_pass_eq_ite_refuse ?_ fun _ => rfl)
    rw [inRange_iff]
    omega
  · refine (h.exec_eq (row := .clearCounts) rfl clearCountsAct).trans ?_
    rw [clearCountsAct_of_length hlen, finish_badLength]

/-! ## READ_STREAM -/

section
variable {kind : Word} (h : kind.toNat ≤ 7) (fixed user : Word)
include h

theorem patternKindOf_code : (patternKindOf kind fixed user).code = kind.toNat := by
  unfold patternKindOf
  generalize kind.toNat = n at h
  interval_cases n <;> rfl

theorem patternKindOf_fixedWord : (patternKindOf kind fixed user).fixedWord = if kind.toNat = 6 then fixed else 0 := by
  unfold patternKindOf
  generalize kind.toNat = n at h
  interval_cases n <;> rfl

theorem patternKindOf_userNumber :
    (patternKindOf kind fixed user).userNumber = if kind.toNat = 7 then (index 32 user).val else 0 := by
  unfold patternKindOf
  generalize kind.toNat = n at h
  interval_cases n <;> rfl

end

theorem Word.ofNat_toNat (w : Word) : Word.ofNat w.toNat = w := BitVec.eq_of_toNat_eq (by simp)

theorem Word.ofNat_index {n : Nat} [NeZero n] {w : Word} (h : w.toNat < n) : Word.ofNat (index n w).val = w := by
  rw [index_val h, Word.ofNat_toNat]

theorem Word.ofNat_one_eq {w : Word} (h : w.toNat ≤ 1) : Word.ofNat (one (decide (w = 1))) = w := by
  have hone : w = 1 ↔ w.toNat = 1 := BitVec.toNat_inj.symm
  have hzero : w = 0 ↔ w.toNat = 0 := BitVec.toNat_inj.symm
  by_cases hw : w = 1
  · rw [hw]
    rfl
  · have hne : w.toNat ≠ 1 := fun h1 => hw (hone.mpr h1)
    have heq : w = 0 := hzero.mpr (by omega)
    rw [heq]
    rfl

/-- The configuration words of an accepted SET_STREAM are its arguments, a field the kind does not use apart (R4, R17). -/
theorem configWords_configOf {w eg ing kind inv user gate : Word} (fixed len pace leap ver loss bad sev sil : Word)
    (hw : w.toNat ≤ 255) (heg : eg.toNat ≤ 15) (hing : ing.toNat ≤ 15) (hkind : kind.toNat ≤ 7) (hinv : inv.toNat ≤ 1)
    (huser : kind = 7 → user.toNat ≤ 31) (hgate : gate.toNat ≤ 3) :
    configWords (index 256 w) (configOf eg ing kind inv fixed user len pace gate leap ver loss bad sev sil) =
      [w, eg, ing, kind, inv, if kind = 6 then fixed else 0, if kind = 7 then user else 0, len, pace, gate, leap,
        ver, loss, bad, sev, sil] := by
  have hsix : kind = 6 ↔ kind.toNat = 6 := BitVec.toNat_inj.symm
  have hseven : kind = 7 ↔ kind.toNat = 7 := BitVec.toNat_inj.symm
  have hnumber : Word.ofNat (if kind.toNat = 7 then (index 32 user).val else 0) = if kind = 7 then user else 0 := by
    by_cases h7 : kind = 7
    · rw [if_pos h7, if_pos (hseven.mp h7)]
      exact Word.ofNat_index (Nat.lt_succ_of_le (huser h7))
    · rw [if_neg h7, if_neg (fun h => h7 (hseven.mpr h))]
      rfl
  rw [configWords, configOf, patternKindOf_code hkind, patternKindOf_fixedWord hkind, patternKindOf_userNumber hkind,
    hnumber, if_congr hsix rfl rfl, Word.ofNat_index (by omega), Word.ofNat_index (by omega), Word.ofNat_index (by omega),
    Word.ofNat_index (by omega), Word.ofNat_one_eq hinv]
  simp only [Word.ofNat_toNat]

theorem cumulativeWords_length (c : Cumulative) : (cumulativeWords c).length = 22 := by
  simp [cumulativeWords, wideWords]

theorem streamWords_length (i : Fin 256) (r : Stream) : (streamWords i r).length = 84 := by
  simp [streamWords, configWords, stateWords, generatorWords, checkerWords, cumulativeWords_length, intervalWords, wideWords]

/-- Settles O34: READ_STREAM's answer group by group, and the configuration words read back argument by argument. -/
theorem readStreamWords : Obligations.ReadStreamWords := by
  unfold Obligations.ReadStreamWords
  refine ⟨rfl, rfl, rfl, fun _ => ⟨rfl, rfl, rfl⟩, fun _ => ⟨rfl, rfl, rfl⟩, fun _ => ⟨rfl, rfl⟩,
    fun s f rest h => ⟨fun w hargs => ?_, fun hlen => ?_⟩, streamWords_length, ?_⟩
  · refine (h.exec_eq (row := .readStream) rfl readStreamAct).trans ?_
    rw [hargs, readStreamAct, finish_checked_cons, finish_checked_nil, finish_mk]
    refine congrArg _ (ite_pass_eq_ite_refuse ?_ fun _ => ?_)
    · rw [inRange_iff]
      omega
    · refine congrArg (fun ws => (s.dequeue rest).replied f (.good ws)) ?_
      rfl
  · refine (h.exec_eq (row := .readStream) rfl readStreamAct).trans ?_
    rw [readStreamAct_of_length hlen, finish_badLength]
  · intro w eg ing kind inv fixed user len pace gate leap ver loss bad sev sil hw heg hing hkind hinv huser hgate
    exact configWords_configOf fixed len pace leap ver loss bad sev sil hw heg hing hkind hinv huser hgate

end Sys2Proof.Machine
end

section
/-! SUPPORT. What changes the tag window and what makes a stream active (R33, R35, R36, R87, R106): the resets and SET_WINDOW
the one, START_GEN and START_CHK the other. Every other event is `Calm`. -/

namespace Sys2Proof.Machine

/-! ## Calm changes -/

/-- The tag window stays as it is, and no stream that had no active side gains one. -/
structure Calm (s t : State) : Prop where
  window : t.window = s.window
  active : ∀ i, (t.stream i).active = true → (s.stream i).active = true

theorem Calm.refl (s : State) : Calm s s := ⟨rfl, fun _ h => h⟩

theorem Calm.trans {s t u : State} (h : Calm s t) (h' : Calm t u) : Calm s u :=
  ⟨h'.window.trans h.window, fun i hi => h.active i (h'.active i hi)⟩

theorem Calm.windowLaw {s t : State} (h : Calm s t) (hs : WindowLaw s) : WindowLaw t := by
  obtain ⟨hbase, hbelow⟩ := hs
  unfold WindowLaw
  rw [h.window]
  exact ⟨hbase, fun i hi => hbelow i (h.active i hi)⟩

theorem Calm.of_streams {s t : State} (window : t.window = s.window) (streams : t.streams = s.streams) : Calm s t :=
  ⟨window, fun i h => State.stream_congr streams i ▸ h⟩

theorem Stream.active_iff (r : Stream) : r.active = true ↔ r.gen.active = true ∨ r.chk.active = true :=
  Bool.or_eq_true_iff

theorem Checker.active_iff (c : Checker) : c.active = true ↔ c.sync ≠ .off := bne_iff_ne

theorem Stream.active_congr {r r' : Stream} (hgen : r'.gen.state = r.gen.state) (hsync : r'.chk.sync = r.chk.sync) :
    r'.active = r.active := by
  rw [Stream.active, Stream.active, Generator.active, Generator.active, Checker.active, Checker.active, hgen, hsync]

theorem Calm.setStream {s : State} {i : Fin 256} {r : Stream}
    (h : r.active = true → (s.stream i).active = true) : Calm s (s.setStream i r) := by
  refine ⟨rfl, fun j hj => ?_⟩
  rw [State.stream_setStream] at hj
  split at hj
  case isTrue heq => exact heq ▸ h hj
  case isFalse => exact hj

theorem Calm.setGen {s : State} {i : Fin 256} {g : Generator} (h : g.state = (s.stream i).gen.state) :
    Calm s (s.setGen i g) :=
  .setStream fun hr => Stream.active_congr (r' := { s.stream i with gen := g }) h rfl ▸ hr

theorem Calm.setChk {s : State} {i : Fin 256} {c : Checker} (h : c.sync ≠ .off → (s.stream i).chk.sync ≠ .off) :
    Calm s (s.setChk i c) := by
  refine .setStream fun hr => ?_
  rw [Stream.active_iff, Checker.active_iff] at hr ⊢
  exact hr.imp_right h

theorem Calm.mapStreams {s : State} {f : Stream → Stream} (h : ∀ r, (f r).active = true → r.active = true) :
    Calm s (s.mapStreams f) :=
  ⟨rfl, fun i hi => h _ (State.stream_mapStreams s f i ▸ hi)⟩

variable (s : State)

theorem setEvents_calm (e : EventUnit) : Calm s (s.setEvents e) := .of_streams rfl rfl
theorem setAgent_calm (a : Agent) : Calm s (s.setAgent a) := .of_streams rfl rfl
theorem setStore_calm (st : Store) : Calm s (s.setStore st) := .of_streams rfl rfl
theorem setRing_calm (r : Ring) : Calm s (s.setRing r) := .of_streams rfl rfl
theorem setGate_calm (g : Fin 4) (x : Gate) : Calm s (s.setGate g x) := .of_streams rfl rfl
theorem setLane_calm (l : Fin 16) (n : Lane) : Calm s (s.setLane l n) := .of_streams rfl rfl

theorem raiseDevice_calm (k : DeviceKind) (d1 d2 : Word) : Calm s (s.raiseDevice k d1 d2) :=
  .of_streams (by simp) (by simp)

theorem raiseStream_calm (i : Fin 256) (k : StreamKind) : Calm s (s.raiseStream i k) :=
  ⟨by simp, fun j hj =>
    Stream.active_congr (r := s.stream j) (r' := (s.raiseStream i k).stream j) (by simp) (by simp) ▸ hj⟩

theorem raiseAll_calm (i : Fin 256) (ks : List StreamKind) : Calm s (s.raiseAll i ks) :=
  State.raiseAll_induction (P := Calm s) (fun t k h => h.trans (raiseStream_calm t i k)) ks (.refl s)

theorem answer_calm (f : ControlFrame) (echo : Byte) (a : Answer) : Calm s (s.answer f echo a) :=
  .of_streams (by simp) (by simp)

theorem enterWaiting_calm : Calm s (enterWaiting s) := by
  obtain ⟨r, -, -, h⟩ | ⟨-, h⟩ := enterWaiting_cases s
  · rw [h]
    exact setAgent_calm s _
  · rw [h]
    exact .refl s

/-- A fold of calm changes is calm. -/
theorem foldl_calm {α : Type} {f : State → α → State} (h : ∀ s a, Calm s (f s a)) (l : List α) : Calm s (l.foldl f s) := by
  induction l generalizing s with
  | nil => exact .refl s
  | cons a l ih => exact (h s a).trans (ih (f s a))

/-! ## The checkers -/

/-- An OFF checker takes no delivery (R109), so a delivery starts none. -/
theorem takeDelivery_sync_ne_off {cfg : StreamConfig} {st : Store} {o : Bool} {f : Frame} {c : Checker}
    (h : (takeDelivery cfg st o f c).1.sync ≠ .off) : c.sync ≠ .off := by
  intro hoff
  rw [takeDelivery, hoff] at h
  exact h hoff

theorem deliver_calm (i : Fin 256) (f : Frame) : Calm s (deliver s i f) :=
  (Calm.setChk takeDelivery_sync_ne_off).trans (raiseAll_calm _ _ _)

theorem sync_ne_off_of_timed {c : Checker} (h : c.timed = true) : c.sync ≠ .off := by
  rcases (Checker.timed_iff c).mp h with hs | hs <;> rw [hs] <;> decide

theorem expireSilence_calm (i : Fin 256) (h : (s.stream i).chk.timed = true) : Calm s (expireSilence s i) := by
  have hchk := fun c => Calm.setChk (s := s) (i := i) (c := c) fun _ => sync_ne_off_of_timed h
  unfold expireSilence
  simp only []
  split
  · exact hchk _
  · exact (hchk _).trans (raiseStream_calm _ _ _)

theorem tickChecker_calm (i : Fin 256) : Calm s (tickChecker s i) := by
  unfold tickChecker
  simp only []
  split_ifs with he
  · exact expireSilence_calm s i (timed_of_silenceExpires he)
  · exact .setChk fun h => h
  · exact .refl s

theorem restartChecker_calm (i : Fin 256) (h : (s.stream i).chk.active = true) : Calm s (restartChecker s i) := by
  have hchk := fun c => Calm.setChk (s := s) (i := i) (c := c) fun _ => (Checker.active_iff _).mp h
  unfold restartChecker
  simp only []
  split
  · exact (hchk _).trans (raiseStream_calm _ _ _)
  · exact hchk _

/-! ## Gates and ticks -/

theorem classifyMember_calm (i : Fin 256) : Calm s (classifyMember s i) := by
  have hchk := Calm.setChk (s := s) (i := i) (c := (s.stream i).chk.afterTick (tickClass (s.stream i))) fun h => h
  unfold classifyMember
  simp only []
  split
  · exact hchk.trans (raiseStream_calm _ _ _)
  · exact hchk

theorem classifyMembers_calm (g : Fin 4) : Calm s (classifyMembers s g) := foldl_calm s classifyMember_calm _

theorem freshMembers_calm (g : Fin 4) : Calm s (freshMembers s g) := by
  refine .mapStreams fun r hr => ?_
  split at hr
  case isTrue => exact Stream.active_congr (r := r) (r' := { r with chk := r.chk.freshInterval }) rfl rfl ▸ hr
  case isFalse => exact hr

theorem openGate_calm (g : Fin 4) : Calm s (openGate s g) := (setGate_calm s g _).trans (freshMembers_calm _ g)

theorem offer_calm (batch : List Record) : Calm s (offer s batch) :=
  offer_induction s batch (setRing_calm s _) fun t k d1 d2 h => h.trans (raiseDevice_calm t k d1 d2)

theorem offerBatch_calm (g : Fin 4) (partialEnd : Bool) : Calm s (offerBatch s g partialEnd) := by
  unfold offerBatch
  split
  · exact .refl s
  · exact offer_calm s _

theorem startPulse_calm (g : Fin 4) (base : Nat) : Calm s (startPulse s g base) := by
  unfold startPulse
  split
  · exact .of_streams rfl rfl
  · exact .refl s

theorem endInterval_calm (g : Fin 4) (partialEnd : Bool) (base : Nat) : Calm s (endInterval g partialEnd base s) :=
  ((((offerBatch_calm s g partialEnd).trans (freshMembers_calm _ g)).trans (setGate_calm _ _ _)).trans
    (raiseDevice_calm _ _ _ _)).trans (startPulse_calm _ _ _)

theorem closeGate_calm (g : Fin 4) (stop : Bool) : Calm s (closeGate g stop s) := by
  unfold closeGate
  split
  · exact setGate_calm s _ _
  · exact .refl s

theorem countEventWith_calm {atEnd : State → State} (hend : ∀ s, Calm s (atEnd s)) (g : Fin 4) :
    Calm s (countEventWith atEnd g s) := by
  have hcount := fun x => (setGate_calm s g x).trans (classifyMembers_calm _ g)
  unfold countEventWith
  simp only []
  split
  case h_1 => exact .refl s
  case h_2 =>
    split
    · exact openGate_calm s g
    · exact .refl s
  case h_3 =>
    split
    · exact (hcount _).trans (hend _)
    · exact hcount _

theorem feedPartner_calm (g : Fin 4) (base : Nat) : Calm s (feedPartner g base s) := by
  unfold feedPartner
  split
  · exact countEventWith_calm s (fun s => (endInterval_calm s _ _ _).trans (closeGate_calm _ _ _)) _
  · exact .refl s

theorem intervalEnd_calm (g : Fin 4) (stop : Bool) (base : Nat) : Calm s (intervalEnd g stop base s) :=
  ((endInterval_calm s _ _ _).trans (feedPartner_calm _ _ _)).trans (closeGate_calm _ _ _)

theorem countEvent_calm (base : Nat) (g : Fin 4) : Calm s (countEvent base g s) :=
  countEventWith_calm s (fun s => intervalEnd_calm s _ _ _) g

theorem tickGate_calm (source : GateSource) (base : Nat) (g : Fin 4) : Calm s (tickGate source base s g) := by
  unfold tickGate
  split
  · exact countEvent_calm s _ _
  · exact .refl s

theorem tickGates_calm (source : GateSource) (order : List (Fin 4)) : Calm s (tickGates source order s) :=
  foldl_calm s (fun s g => tickGate_calm s _ _ g) _

theorem tickSite_calm (base : Nat) (x : TickSite) : Calm s (tickSite base s x) := by
  cases x with
  | checker i => exact tickChecker_calm s i
  | gate g => exact tickGate_calm s _ _ g

theorem edgeGate_calm (base : Nat) (g : Fin 4) : Calm s (edgeGate base s g) := by
  unfold edgeGate
  simp only []
  split_ifs
  · exact openGate_calm s g
  · exact countEvent_calm s _ _
  · exact .refl s

theorem stopGate_calm (g : Fin 4) : Calm s (stopGate s g) := by
  unfold stopGate
  split
  · exact .refl s
  · exact setGate_calm s _ _
  · exact intervalEnd_calm s _ _ _

/-! ## Generators -/

theorem paceStream_calm (i : Fin 256) : Calm s (paceStream s i) := by
  unfold paceStream pacingReload
  simp only []
  split_ifs
  · exact (Calm.setGen (by rfl)).trans (raiseStream_calm _ _ _)
  · exact .setGen rfl
  · exact .setGen rfl

theorem rateSource_state (g : Generator) (w : Word) : (rateSource g w).1.state = g.state := by
  unfold rateSource
  split_ifs <;> rfl

theorem singleSource_state (g : Generator) (w : Word) : (singleSource g w).1.state = g.state := by
  unfold singleSource
  split <;> rfl

theorem burstSource_state (g : Generator) (w : Word) : (burstSource g w).1.state = g.state := by
  unfold burstSource
  split <;> rfl

theorem injectWord_state (g : Generator) (w : Word) : (injectWord g w).1.state = g.state := by
  simp [injectWord, burstSource_state, singleSource_state, rateSource_state]

/-- Injection leaves the generator state alone (R95). -/
theorem injectWords_state (g : Generator) (ws : List Word) : (injectWords g ws).1.state = g.state := by
  induction ws generalizing g with
  | nil => rfl
  | cons w ws ih => exact (ih _).trans (injectWord_state g w)

theorem Stream.atModeChange_active (r : Stream) (l : Fin 16) (a b : EgressMode)
    (h : (r.atModeChange l a b).active = true) : r.active = true := by
  rw [Stream.active_iff, Stream.atModeChange_chk] at h
  rw [Stream.active_iff]
  refine h.imp_left fun hg => ?_
  unfold Stream.atModeChange at hg
  split_ifs at hg
  · exact hg
  · simp_all [Generator.active]
  · simp_all [Generator.active]
  · exact hg

/-! ## Lanes -/

variable (l : Fin 16)

theorem takeControl_calm (broadcast : Bool) (f : Frame) : Calm s (takeControl s broadcast f) := by
  unfold takeControl
  split
  · exact setAgent_calm s _
  · exact (setAgent_calm s _).trans (raiseDevice_calm _ _ _ _)

theorem takeClient_calm (f : Frame) : Calm s (takeClient s l f) := by
  unfold takeClient
  simp only []
  split_ifs
  · exact setLane_calm s l _
  · exact setLane_calm s l _
  · exact (setLane_calm s l _).trans (raiseDevice_calm _ _ _ _)

theorem forward_calm (f : Frame) : Calm s (forward s l f) := by
  unfold forward
  simp only []
  split
  · exact setLane_calm s l _
  · exact (setLane_calm s l _).trans (raiseDevice_calm _ _ _ _)

theorem countVerdict_calm (v : Verdict) : Calm s (countVerdict s l v) := by
  have hcount : ∀ f, Calm s (s.countLane l f) := fun f => setLane_calm s l _
  unfold countVerdict
  split
  case h_1 => exact .refl s
  case h_2 => exact .refl s
  case h_3 => exact hcount _
  case h_4 =>
    split
    · exact .refl s
    · exact hcount _
  case h_5 =>
    split_ifs
    · exact .refl s
    · exact hcount _
    · exact hcount _

theorem sendTest_calm (i : Fin 256) : Calm s (sendTest s l i) := by
  have hgen : Calm s (s.setGen i (buildTest s i).1) := .setGen (injectWords_state _ _)
  exact hgen.trans (setLane_calm _ l _)

theorem sendClient_calm : Calm s (sendClient s l) := by
  unfold sendClient
  simp only []
  split
  · split <;> exact setLane_calm s l _
  · exact setLane_calm s l _

theorem serveLineOut_calm : Calm s (serveLineOut s l) := by
  unfold serveLineOut
  split
  · exact sendTest_calm s l _
  · exact sendClient_calm s l

theorem sendForwarded_calm : Calm s (sendForwarded s l) := by
  unfold sendForwarded
  simp only []
  split <;> exact setLane_calm s l _

theorem sendOutbound_calm (o : OutFrame) (rest : List OutFrame) : Calm s (sendOutbound s o rest) :=
  ((setAgent_calm s _).trans (setLane_calm _ 0 _)).trans (enterWaiting_calm _)

end Sys2Proof.Machine
end

section
/-! SUPPORT. The commands that are calm, and every other event. -/

namespace Sys2Proof.Machine

/-! ## The commands -/

/-- Refused by its checks, a command leaves the state; with every check passed, what its action leaves. -/
theorem checked_keeps {P : State → Prop} {cs : List (Bool × Status)} {s : State} {k : Answer × State} (hs : P s)
    (h : (∀ c ∈ cs, c.1 = true) → P k.2) : P (checked cs s k).2 := by
  obtain ⟨st, -, hk⟩ | ⟨hpass, hk⟩ := checked_cases cs s k
  · rw [hk]
    exact hs
  · rw [hk]
    exact h (firstFail_eq_none.mp hpass)

theorem checked_calm {cs : List (Bool × Status)} {s : State} {k : Answer × State}
    (h : (∀ c ∈ cs, c.1 = true) → Calm s k.2) : Calm s (checked cs s k).2 :=
  checked_keeps (.refl s) h

variable (s : State) (ws : List Word)

theorem identifyAct_calm : Calm s (identifyAct ws s).2 := by
  unfold identifyAct
  split <;> exact .refl s

theorem echoAct_calm : Calm s (echoAct ws s).2 := .refl s

theorem setStreamAct_calm : Calm s (setStreamAct ws s).2 := by
  unfold setStreamAct
  split
  · exact checked_calm fun _ => .setStream fun h => h
  · exact .refl s

theorem readStreamAct_calm : Calm s (readStreamAct ws s).2 := by
  unfold readStreamAct
  split
  · exact checked_calm fun _ => .refl s
  · exact .refl s

theorem clearCountsAct_calm : Calm s (clearCountsAct ws s).2 := by
  unfold clearCountsAct
  split
  · exact checked_calm fun _ => .setStream fun h => h
  · exact .refl s

theorem stopGenAct_calm : Calm s (stopGenAct ws s).2 := by
  unfold stopGenAct
  split
  · refine checked_calm fun _ => Calm.trans (.setStream fun h => ?_) (setStore_calm _ _)
    exact (Stream.active_iff _).mpr (.inr (((Stream.active_iff _).mp h).resolve_left nofun))
  · exact .refl s

theorem setInjectAct_calm : Calm s (setInjectAct ws s).2 := by
  unfold setInjectAct
  split
  · exact checked_calm fun _ => .setGen rfl
  · exact .refl s

theorem injectOneAct_calm : Calm s (injectOneAct ws s).2 := by
  unfold injectOneAct
  split
  · exact checked_calm fun _ => .setGen rfl
  · exact .refl s

theorem injectBurstAct_calm : Calm s (injectBurstAct ws s).2 := by
  unfold injectBurstAct
  split
  · exact checked_calm fun _ => .setGen rfl
  · exact .refl s

theorem stopChkAct_calm : Calm s (stopChkAct ws s).2 := by
  unfold stopChkAct
  split
  · exact checked_calm fun _ => Calm.trans (.setChk fun h => absurd rfl h) (setStore_calm _ _)
  · exact .refl s

theorem restartChkAct_calm : Calm s (restartChkAct ws s).2 := by
  unfold restartChkAct
  split
  · refine checked_calm fun h => ?_
    simp only [List.mem_cons, List.not_mem_nil, or_false, forall_eq_or_imp, forall_eq] at h
    exact restartChecker_calm s _ h.2
  · exact .refl s

theorem setLaneAct_calm : Calm s (setLaneAct ws s).2 := by
  unfold setLaneAct
  split
  · refine checked_calm fun _ => Calm.trans (.mapStreams fun r => ?_) (setLane_calm _ _ _)
    exact Stream.atModeChange_active r _ _ _
  · exact .refl s

theorem readLaneAct_calm : Calm s (readLaneAct ws s).2 := by
  unfold readLaneAct
  split
  · refine checked_calm fun _ => ?_
    split
    · exact setLane_calm s _ _
    · exact .refl s
  · exact .refl s

theorem loadWordsAct_calm : Calm s (loadWordsAct ws s).2 := by
  unfold loadWordsAct
  split
  · split
    · exact checked_calm fun _ => setStore_calm s _
    · exact .refl s
  · exact .refl s

theorem readSegmentAct_calm : Calm s (readSegmentAct ws s).2 := by
  unfold readSegmentAct
  split
  · exact checked_calm fun _ => .refl s
  · exact .refl s

theorem clearSegmentAct_calm : Calm s (clearSegmentAct ws s).2 := by
  unfold clearSegmentAct
  split
  · exact checked_calm fun _ => setStore_calm s _
  · exact .refl s

theorem wipeStoreAct_calm : Calm s (wipeStoreAct ws s).2 := by
  unfold wipeStoreAct
  split
  · exact checked_calm fun _ => setStore_calm s _
  · exact .refl s

theorem definePatternAct_calm : Calm s (definePatternAct ws s).2 := by
  unfold definePatternAct
  split
  · exact checked_calm fun _ => setStore_calm s _
  · exact .refl s

theorem undefinePatternAct_calm : Calm s (undefinePatternAct ws s).2 := by
  unfold undefinePatternAct
  split
  · exact checked_calm fun _ => setStore_calm s _
  · exact .refl s

theorem freezePatternAct_calm : Calm s (freezePatternAct ws s).2 := by
  unfold freezePatternAct
  split
  · exact checked_calm fun _ => setStore_calm s _
  · exact .refl s

theorem readPatternAct_calm : Calm s (readPatternAct ws s).2 := by
  unfold readPatternAct
  split
  · exact checked_calm fun _ => .refl s
  · exact .refl s

theorem setGateAct_calm : Calm s (setGateAct ws s).2 := by
  unfold setGateAct
  split
  · exact checked_calm fun _ => setGate_calm s _ _
  · exact .refl s

theorem startGateAct_calm : Calm s (startGateAct ws s).2 := by
  unfold startGateAct
  split
  · exact checked_calm fun _ => setGate_calm s _ _
  · exact .refl s

theorem stopGateAct_calm : Calm s (stopGateAct ws s).2 := by
  unfold stopGateAct
  split
  · exact checked_calm fun _ => stopGate_calm s _
  · exact .refl s

theorem readGateAct_calm : Calm s (readGateAct ws s).2 := by
  unfold readGateAct
  split
  · exact checked_calm fun _ => .refl s
  · exact .refl s

theorem fetchResultsAct_calm : Calm s (fetchResultsAct ws s).2 := by
  unfold fetchResultsAct
  split
  · exact checked_calm fun _ => .refl s
  · exact .refl s

theorem releaseResultsAct_calm : Calm s (releaseResultsAct ws s).2 := by
  unfold releaseResultsAct
  split
  · exact checked_calm fun _ => setRing_calm s _
  · exact .refl s

theorem setRingAct_calm : Calm s (setRingAct ws s).2 := by
  unfold setRingAct
  split
  · exact checked_calm fun _ => setRing_calm s _
  · exact .refl s

theorem readRingAct_calm : Calm s (readRingAct ws s).2 := by
  unfold readRingAct
  split <;> exact .refl s

theorem readEventsAct_calm : Calm s (readEventsAct ws s).2 := by
  unfold readEventsAct
  split <;> exact .refl s

theorem ackStream_calm (i : Fin 256) (mask : KindSet) : Calm s (ackStream s i mask) := by
  have hset : Calm s (s.setStream i { s.stream i with events := (s.stream i).events.removeMask mask }) :=
    .setStream fun h => h
  exact hset.trans (setEvents_calm _ _)

theorem ackEventsAct_calm : Calm s (ackEventsAct ws s).2 := by
  unfold ackEventsAct
  split
  · split
    · exact checked_calm fun _ => setEvents_calm s _
    · exact checked_calm fun _ => ackStream_calm s _ _
  · exact .refl s

theorem withdrawKind_calm (k : Kind) : Calm s (withdrawKind s k) := by
  cases k with
  | device k => exact setEvents_calm s _
  | stream k =>
    have hmap : Calm s (s.mapStreams fun r => { r with events := r.events.removeMask (kindBit k.code) }) :=
      .mapStreams fun _ h => h
    exact hmap.trans (setEvents_calm _ _)

theorem setEventPolicyAct_calm : Calm s (setEventPolicyAct ws s).2 := by
  unfold setEventPolicyAct
  split
  · split
    · exact .refl s
    · refine checked_calm fun _ => ?_
      unfold setPolicy
      simp only []
      split
      · exact (setEvents_calm s _).trans (withdrawKind_calm _ _)
      · exact setEvents_calm s _
  · exact .refl s

/-! ## The other events -/

variable {s} {t : State}

theorem execUnknownCommand_calm (h : execUnknownCommand s = .next t) : Calm s t := by
  unfold execUnknownCommand at h
  split at h
  · cases h; exact .refl s
  · split at h
    · cases h; exact (setAgent_calm s _).trans (answer_calm _ _ _ _)
    · cases h; exact .refl s

theorem execClientInArrival_calm {l : Fin 16} {f : Frame} (h : execClientInArrival l f s = .next t) : Calm s t := by
  unfold execClientInArrival at h
  split at h
  · split at h
    · cases h; exact takeControl_calm s _ _
    · cases h; exact (takeControl_calm s _ _).trans (takeClient_calm _ l f)
    · cases h; exact takeClient_calm s l f
  · cases h; exact .refl s

theorem execLineInArrival_calm {l : Fin 16} {f : Frame} {b : Bool} (h : execLineInArrival l f b s = .next t) :
    Calm s t := by
  have hcount := countVerdict_calm s l (classify s.window f)
  have hforward := hcount.trans (forward_calm _ l f)
  have hdeliver := fun i => hcount.trans (deliver_calm _ i f)
  unfold execLineInArrival at h
  split at h
  · simp only [] at h
    split at h
    · split_ifs at h
      · cases h; exact hforward.trans (deliver_calm _ _ f)
      · cases h; exact (hdeliver _).trans (forward_calm _ l f)
      · cases h; exact hdeliver _
      · cases h; exact hforward
    · cases h; exact hforward
  · cases h; exact .refl s

theorem execLineOutOpportunity_calm {l : Fin 16} (h : execLineOutOpportunity l s = .next t) : Calm s t := by
  unfold execLineOutOpportunity at h
  split at h
  · split at h
    · cases h; exact sendClient_calm s l
    · cases h; exact (foldl_calm s paceStream_calm _).trans (serveLineOut_calm _ l)
  · cases h; exact .refl s

theorem execClientOutOpportunity_calm {l : Fin 16} (h : execClientOutOpportunity l s = .next t) : Calm s t := by
  unfold execClientOutOpportunity at h
  split at h
  · split at h
    · split at h
      · cases h; exact sendOutbound_calm s _ _
      · cases h; exact sendForwarded_calm s l
    · cases h; exact sendForwarded_calm s l
  · cases h; exact .refl s

theorem execPacingExpiry_calm {i : Fin 256} (h : execPacingExpiry i s = .next t) : Calm s t := by
  unfold execPacingExpiry at h
  split at h
  · cases h; exact paceStream_calm s i
  · cases h; exact .refl s

theorem execRateInjection_calm {i : Fin 256} {w : Word} (h : execRateInjection i w s = .next t) : Calm s t := by
  unfold execRateInjection at h
  simp only [] at h
  split at h
  · cases h
    have hgen : Calm s (s.setGen i (rateFlip (s.stream i).gen w).1) := .setGen rfl
    exact hgen.trans (.of_streams rfl rfl)
  · cases h; exact .refl s

theorem execWaitingReplyEntry_calm (h : execWaitingReplyEntry s = .next t) : Calm s t := by
  unfold execWaitingReplyEntry at h
  split at h
  · cases h; exact .refl s
  · cases h; exact enterWaiting_calm s

theorem execT1ms_calm {order : List TickSite} (h : execT1ms order s = .next t) : Calm s t := by
  unfold execT1ms at h
  split at h
  · cases h; exact .refl s
  · cases h
    have hms : Calm s { s with ms := (s.ms + 1) % 1000 } := .of_streams rfl rfl
    exact hms.trans (foldl_calm _ (fun s x => tickSite_calm s _ x) _)

/-- A tick or an edge that reaches gates alone: nothing under reset, else a calm change. -/
theorem running_calm {u : State} (hu : Calm s u) (h : (if s.inReset then .next s else .next u : Result) = .next t) :
    Calm s t := by
  split at h
  · cases h; exact .refl s
  · cases h; exact hu

theorem execSilenceExpiry_calm {i : Fin 256} (h : execSilenceExpiry i s = .next t) : Calm s t := by
  unfold execSilenceExpiry at h
  split at h
  case isTrue he =>
    cases h
    exact expireSilence_calm s i (timed_of_silenceExpires ((Bool.and_eq_true _ _).mp he).2)
  case isFalse => cases h; exact .refl s

theorem execIntervalEnd_calm {g : Fin 4} (h : execIntervalEnd g s = .next t) : Calm s t := by
  unfold execIntervalEnd at h
  split at h
  · cases h; exact countEvent_calm s _ g
  · cases h; exact .refl s

theorem execClearCompletion_calm (h : execClearCompletion s = .next t) : Calm s t := by
  unfold execClearCompletion at h
  split at h
  · split at h
    · cases h; exact .refl s
    · cases h; exact ((setStore_calm s _).trans (raiseDevice_calm _ _ _ _)).trans (setStore_calm _ _)
  · cases h; exact .refl s

theorem execWipeCompletion_calm (h : execWipeCompletion s = .next t) : Calm s t := by
  unfold execWipeCompletion at h
  split at h
  · cases h; exact (setStore_calm s _).trans (raiseDevice_calm _ _ _ _)
  · cases h; exact .refl s

theorem execResetRelease_calm {a : BitVec 6} {n : BitVec 2} (h : execResetRelease a n s = .next t) : Calm s t := by
  unfold execResetRelease at h
  split at h
  · cases h; exact .of_streams rfl rfl
  · cases h; exact .refl s

end Sys2Proof.Machine
end

section
/-! SUPPORT. The tag window's law (R33, R35) through every event. -/

namespace Sys2Proof.Machine

variable {s t : State}

/-- What a command's action keeps, the command keeps, when the frame's leaving the queue and the reply do. -/
theorem runCommand_keeps {P : State → Prop} (hdequeue : ∀ s rest, P s → P (s.dequeue rest))
    (hanswer : ∀ s f echo a, P s → P (s.answer f echo a)) {row : Instr} {act : List Word → State → Answer × State}
    (hact : ∀ s ws, P s → P (act ws s).2) (h : runCommand row act s = .next t) (hs : P s) : P t := by
  obtain hnone | ⟨f, rest, -, -, hrun⟩ := runCommand_cases row act s
  · rw [hnone] at h
    cases h
    exact hs
  · rw [hrun] at h
    cases h
    exact hanswer _ _ _ _ (hact _ _ (hdequeue s rest hs))

theorem runCommand_windowLaw {row : Instr} {act : List Word → State → Answer × State}
    (hact : ∀ s ws, WindowLaw s → WindowLaw (act ws s).2) (h : runCommand row act s = .next t) (hs : WindowLaw s) :
    WindowLaw t :=
  runCommand_keeps (fun s _ hs => (setAgent_calm s _).windowLaw hs)
    (fun s f echo a hs => (answer_calm s f echo a).windowLaw hs) hact h hs

theorem runCommand_windowLaw_of_calm {row : Instr} {act : List Word → State → Answer × State}
    (hact : ∀ s ws, Calm s (act ws s).2) (h : runCommand row act s = .next t) (hs : WindowLaw s) : WindowLaw t :=
  runCommand_windowLaw (fun s ws hs => (hact s ws).windowLaw hs) h hs

/-! ## The window changes -/

/-- With every stream in reset, the window's reset value is lawful (R33). -/
theorem windowLaw_of_reset (hwindow : s.window = .reset) (hstream : ∀ i, s.stream i = Stream.reset) : WindowLaw s := by
  unfold WindowLaw
  rw [hwindow]
  refine ⟨rfl, fun i h => ?_⟩
  rw [hstream] at h
  cases h

/-- Every window size divides 65536. -/
theorem WindowSize.value_dvd (size : WindowSize) : size.value ∣ 2 ^ 16 := by
  cases size <;> decide

/-- An aligned base is a multiple of the size (R33). -/
theorem alignBase_mod (base : Nat) (size : WindowSize) : (alignBase base size).toNat % size.value = 0 := by
  rw [alignBase, BitVec.toNat_ofNat, Nat.mod_mod_of_dvd _ size.value_dvd]
  exact Nat.mod_eq_zero_of_dvd (Nat.dvd_sub_mod base)

theorem State.activeFrom_iff (start : Nat) :
    s.activeFrom start = true ↔ ∃ i, (s.stream i).active = true ∧ start ≤ i.val := by
  simp [State.activeFrom, State.stream]

/-- A window no smaller, or with no active side it would leave out (R36, check 3). -/
theorem setWindowTo_windowLaw (wbase : Word) (size : WindowSize) (hs : WindowLaw s) :
    WindowLaw (setWindowTo wbase size s).2 := by
  refine checked_keeps hs fun h => ⟨alignBase_mod _ _, fun i hi => ?_⟩
  simp only [List.mem_cons, List.not_mem_nil, or_false, forall_eq_or_imp, forall_eq, Bool.or_eq_true, decide_eq_true_eq,
    Bool.not_eq_true'] at h
  obtain ⟨-, hlarger | hunused⟩ := h
  · exact Nat.lt_of_lt_of_le (hs.2 i hi) hlarger
  · by_contra hout
    have hused := (State.activeFrom_iff (s := s) size.value).mpr ⟨i, hi, Nat.le_of_not_lt hout⟩
    rw [hunused] at hused
    cases hused

theorem setWindowAct_windowLaw (s : State) (ws : List Word) (hs : WindowLaw s) : WindowLaw (setWindowAct ws s).2 := by
  unfold setWindowAct
  split
  · split
    · exact hs
    · exact checked_keeps hs fun _ => setWindowTo_windowLaw _ _ hs
  · exact hs

/-! ## A side starts -/

/-- A record that changes below the window's size leaves the law (R87, R106, check 4). -/
theorem windowLaw_setStream {i : Fin 256} (r : Stream) (hi : i.val < s.window.size.value) (hs : WindowLaw s) :
    WindowLaw (s.setStream i r) := by
  refine ⟨hs.1, fun j hj => ?_⟩
  rw [State.stream_setStream] at hj
  split at hj
  case isTrue heq => exact heq ▸ hi
  case isFalse => exact hs.2 j hj

theorem startGenAct_windowLaw (s : State) (ws : List Word) (hs : WindowLaw s) : WindowLaw (startGenAct ws s).2 := by
  unfold startGenAct
  split
  · refine checked_keeps hs fun h => ?_
    simp only [List.mem_cons, List.not_mem_nil, or_false, forall_eq_or_imp, forall_eq, decide_eq_true_eq] at h
    obtain ⟨-, -, -, hwindow, -⟩ := h
    exact (setStore_calm _ _).windowLaw (windowLaw_setStream _ hwindow hs)
  · exact hs

theorem startChkAct_windowLaw (s : State) (ws : List Word) (hs : WindowLaw s) : WindowLaw (startChkAct ws s).2 := by
  unfold startChkAct
  split
  · refine checked_keeps hs fun h => ?_
    simp only [List.mem_cons, List.not_mem_nil, or_false, forall_eq_or_imp, forall_eq, decide_eq_true_eq] at h
    obtain ⟨-, -, -, hwindow, -⟩ := h
    exact (setStore_calm _ _).windowLaw (windowLaw_setStream _ hwindow hs)
  · exact hs

theorem resetEngineAct_windowLaw (s : State) (ws : List Word) (hs : WindowLaw s) : WindowLaw (resetEngineAct ws s).2 := by
  unfold resetEngineAct
  split
  · exact windowLaw_of_reset rfl (engineReset_stream s)
  · exact hs

/-! ## Every event -/

theorem exec_windowLaw {c : Instr} (h : exec c s = .next t) (hs : WindowLaw s) : WindowLaw t := by
  cases c with
  | hardwareReset =>
    cases h
    exact windowLaw_of_reset rfl (hardwareReset_stream s)
  | resetRelease a n => exact (execResetRelease_calm h).windowLaw hs
  | clientInArrival l f => exact (execClientInArrival_calm h).windowLaw hs
  | lineInArrival l f b => exact (execLineInArrival_calm h).windowLaw hs
  | lineOutOpportunity l => exact (execLineOutOpportunity_calm h).windowLaw hs
  | pacingExpiry i => exact (execPacingExpiry_calm h).windowLaw hs
  | rateInjection i w => exact (execRateInjection_calm h).windowLaw hs
  | clientOutOpportunity l => exact (execClientOutOpportunity_calm h).windowLaw hs
  | waitingReplyEntry => exact (execWaitingReplyEntry_calm h).windowLaw hs
  | t1ms order => exact (execT1ms_calm h).windowLaw hs
  | t10ms order => exact (running_calm (tickGates_calm s _ order) h).windowLaw hs
  | t100ms order => exact (running_calm (tickGates_calm s _ order) h).windowLaw hs
  | t1s order => exact (running_calm (tickGates_calm s _ order) h).windowLaw hs
  | syncIn order => exact (running_calm (foldl_calm s (fun s g => edgeGate_calm s _ g) _) h).windowLaw hs
  | silenceExpiry i => exact (execSilenceExpiry_calm h).windowLaw hs
  | intervalEnd g => exact (execIntervalEnd_calm h).windowLaw hs
  | gateOutPulseEnd => cases h; exact hs
  | clearCompletion => exact (execClearCompletion_calm h).windowLaw hs
  | wipeCompletion => exact (execWipeCompletion_calm h).windowLaw hs
  | unknownCommand => exact (execUnknownCommand_calm h).windowLaw hs
  | resetEngine => exact runCommand_windowLaw resetEngineAct_windowLaw h hs
  | startGen => exact runCommand_windowLaw startGenAct_windowLaw h hs
  | startChk => exact runCommand_windowLaw startChkAct_windowLaw h hs
  | setWindow => exact runCommand_windowLaw setWindowAct_windowLaw h hs
  | identify => exact runCommand_windowLaw_of_calm identifyAct_calm h hs
  | echo => exact runCommand_windowLaw_of_calm echoAct_calm h hs
  | setStream => exact runCommand_windowLaw_of_calm setStreamAct_calm h hs
  | readStream => exact runCommand_windowLaw_of_calm readStreamAct_calm h hs
  | clearCounts => exact runCommand_windowLaw_of_calm clearCountsAct_calm h hs
  | stopGen => exact runCommand_windowLaw_of_calm stopGenAct_calm h hs
  | setInject => exact runCommand_windowLaw_of_calm setInjectAct_calm h hs
  | injectOne => exact runCommand_windowLaw_of_calm injectOneAct_calm h hs
  | injectBurst => exact runCommand_windowLaw_of_calm injectBurstAct_calm h hs
  | stopChk => exact runCommand_windowLaw_of_calm stopChkAct_calm h hs
  | restartChk => exact runCommand_windowLaw_of_calm restartChkAct_calm h hs
  | setLane => exact runCommand_windowLaw_of_calm setLaneAct_calm h hs
  | readLane => exact runCommand_windowLaw_of_calm readLaneAct_calm h hs
  | loadWords => exact runCommand_windowLaw_of_calm loadWordsAct_calm h hs
  | readSegment => exact runCommand_windowLaw_of_calm readSegmentAct_calm h hs
  | clearSegment => exact runCommand_windowLaw_of_calm clearSegmentAct_calm h hs
  | wipeStore => exact runCommand_windowLaw_of_calm wipeStoreAct_calm h hs
  | definePattern => exact runCommand_windowLaw_of_calm definePatternAct_calm h hs
  | undefinePattern => exact runCommand_windowLaw_of_calm undefinePatternAct_calm h hs
  | freezePattern => exact runCommand_windowLaw_of_calm freezePatternAct_calm h hs
  | readPattern => exact runCommand_windowLaw_of_calm readPatternAct_calm h hs
  | setGate => exact runCommand_windowLaw_of_calm setGateAct_calm h hs
  | startGate => exact runCommand_windowLaw_of_calm startGateAct_calm h hs
  | stopGate => exact runCommand_windowLaw_of_calm stopGateAct_calm h hs
  | readGate => exact runCommand_windowLaw_of_calm readGateAct_calm h hs
  | fetchResults => exact runCommand_windowLaw_of_calm fetchResultsAct_calm h hs
  | releaseResults => exact runCommand_windowLaw_of_calm releaseResultsAct_calm h hs
  | setRing => exact runCommand_windowLaw_of_calm setRingAct_calm h hs
  | readRing => exact runCommand_windowLaw_of_calm readRingAct_calm h hs
  | readEvents => exact runCommand_windowLaw_of_calm readEventsAct_calm h hs
  | ackEvents => exact runCommand_windowLaw_of_calm ackEventsAct_calm h hs
  | setEventPolicy => exact runCommand_windowLaw_of_calm setEventPolicyAct_calm h hs

/-- Settles O54: the resets restore the window and stop every side, SET_WINDOW and the starts check what they change, and every
other event is calm. -/
theorem everyStepKeepsWindowLaw : Obligations.EveryStepKeepsWindowLaw := by
  unfold Obligations.EveryStepKeepsWindowLaw
  intro s t
  exact step_keeps (fun _ _ h => h) exec_windowLaw

end Sys2Proof.Machine
end

section
/-! SUPPORT. Probe frames: the header check (R24), the frames the part builds (R26, R28) and the verdicts of the Classifier
(R23, R25, R34). -/

namespace Sys2Proof.Machine

/-! ## The header check -/

/-- A step of the register loses nothing: the bit shifted out comes back at the low end. -/
theorem crcBit_eq_zero (r : Byte) : crcBit r = 0 ↔ r = 0 := by
  refine ⟨fun h => ?_, fun h => by rw [h]; rfl⟩
  unfold crcBit at h
  split at h
  case isTrue =>
    have hlow : ((r <<< 1) ^^^ 7#8).getLsbD 0 = (0#8).getLsbD 0 := congrArg (·.getLsbD 0) h
    simp at hlow
  case isFalse hmsb =>
    rw [BitVec.msb_eq_decide, decide_eq_true_eq] at hmsb
    have hshift : (r <<< 1).toNat = 0 := by rw [h]; rfl
    rw [BitVec.toNat_shiftLeft, Nat.shiftLeft_eq] at hshift
    apply BitVec.eq_of_toNat_eq
    show r.toNat = 0
    omega

theorem repeat_crcBit_eq_zero (n : Nat) (r : Byte) : Nat.repeat crcBit n r = 0 ↔ r = 0 := by
  induction n with
  | zero => rfl
  | succ n ih => exact (crcBit_eq_zero _).trans ih

theorem crc8_append_singleton (bs : List Byte) (b : Byte) : crc8 (bs ++ [b]) = crcByte (crc8 bs) b := by
  simp [crc8]

/-- A byte is the check of the bytes before it exactly when the check over both is 0 (R24). -/
theorem crc8_append_eq_zero (bs : List Byte) (b : Byte) : crc8 (bs ++ [b]) = 0 ↔ crc8 bs = b := by
  rw [crc8_append_singleton, crcByte, repeat_crcBit_eq_zero]
  exact BitVec.xor_eq_zero_iff

/-! ## Bytes and words -/

theorem halfBytes_append (h : BitVec 16) : ((h >>> 8).setWidth 8 ++ h.setWidth 8 : BitVec 16) = h := by
  ext i hi
  simp only [BitVec.getElem_append, BitVec.getElem_setWidth, BitVec.getLsbD_ushiftRight]
  split
  · exact BitVec.getLsbD_eq_getElem hi
  · rw [Nat.add_sub_cancel' (by omega)]
    exact BitVec.getLsbD_eq_getElem hi

theorem bytesWord_wordBytes (w : Word) :
    bytesWord ((w >>> 24).setWidth 8) ((w >>> 16).setWidth 8) ((w >>> 8).setWidth 8) (w.setWidth 8) = w := by
  unfold bytesWord
  ext i hi
  simp only [BitVec.getElem_append, BitVec.getElem_setWidth, BitVec.getLsbD_ushiftRight]
  rw [← BitVec.getLsbD_eq_getElem hi]
  split_ifs <;> congr 1 <;> omega

theorem bytesWords_flatMap_wordBytes (ws : List Word) : bytesWords (ws.flatMap wordBytes) = ws := by
  induction ws with
  | nil => rfl
  | cons w ws ih =>
    show bytesWord _ _ _ _ :: bytesWords (ws.flatMap wordBytes) = w :: ws
    rw [bytesWord_wordBytes, ih]

theorem length_flatMap_wordBytes (ws : List Word) : (ws.flatMap wordBytes).length = 4 * ws.length := by
  induction ws with
  | nil => rfl
  | cons w ws ih =>
    rw [List.flatMap_cons, List.length_append, ih, List.length_cons]
    simp only [wordBytes, List.length_cons, List.length_nil]
    omega

/-! ## The frames the part builds -/

section
variable (kind : Nat) (addr : BitVec 6) (tag seq : BitVec 16) (offset : Word) (body : List Word)

theorem buildFrame_hasMarker : (buildFrame kind addr tag seq offset body).hasMarker = true := rfl

theorem buildFrame_byte_two : (buildFrame kind addr tag seq offset body).byte 2 = BitVec.ofNat 8 (16 * kind + 1) := rfl

theorem buildFrame_tag : (buildFrame kind addr tag seq offset body).tag = tag := halfBytes_append tag

theorem buildFrame_sequence : (buildFrame kind addr tag seq offset body).sequence = seq := halfBytes_append seq

theorem buildFrame_offset : (buildFrame kind addr tag seq offset body).offset = offset := bytesWord_wordBytes offset

theorem buildFrame_byte_three : (buildFrame kind addr tag seq offset body).byte 3 = addr.setWidth 8 := rfl

theorem buildFrame_address : (buildFrame kind addr tag seq offset body).address = addr := by
  rw [Frame.address, buildFrame_byte_three, BitVec.setWidth_setWidth_of_le addr (by decide), BitVec.setWidth_eq]

theorem buildFrame_body : (buildFrame kind addr tag seq offset body).body = body.flatMap wordBytes := rfl

/-- Thirteen bytes, then their check (R24). -/
theorem buildFrame_eq :
    ∃ h : List Byte, h.length = 13
      ∧ buildFrame kind addr tag seq offset body = h ++ [crc8 h] ++ body.flatMap wordBytes :=
  ⟨_, rfl, rfl⟩

theorem le_length_buildFrame : 14 ≤ (buildFrame kind addr tag seq offset body).length := by
  obtain ⟨h, hlen, heq⟩ := buildFrame_eq kind addr tag seq offset body
  rw [heq, List.length_append, List.length_append, hlen]
  exact Nat.le_add_right _ _

theorem buildFrame_check :
    crc8 ((buildFrame kind addr tag seq offset body).take 13) = (buildFrame kind addr tag seq offset body).byte 13 := by
  obtain ⟨h, hlen, heq⟩ := buildFrame_eq kind addr tag seq offset body
  rw [Frame.byte, heq, List.append_assoc, List.take_left' hlen, List.getD_append_right _ _ _ _ (Nat.le_of_eq hlen), hlen]
  rfl

variable {body} in
theorem buildFrame_lengthField (h : body.length ≤ 255) :
    (buildFrame kind addr tag seq offset body).lengthField = body.length :=
  (BitVec.toNat_ofNat _ _).trans (Nat.mod_eq_of_lt (by omega))

variable {body} in
/-- The body words come back (R27). -/
theorem buildFrame_words (h : body.length ≤ 255) : (buildFrame kind addr tag seq offset body).words = body := by
  rw [Frame.words, buildFrame_lengthField _ _ _ _ _ h, buildFrame_body, ← length_flatMap_wordBytes, List.take_length,
    bytesWords_flatMap_wordBytes]

end

section
variable {kind : Nat} (hkind : kind ≤ 4) (addr : BitVec 6) (tag seq : BitVec 16) (offset : Word) (body : List Word)
include hkind

theorem buildFrame_byte_two_toNat : ((buildFrame kind addr tag seq offset body).byte 2).toNat = 16 * kind + 1 := by
  rw [buildFrame_byte_two, BitVec.toNat_ofNat]
  omega

theorem buildFrame_kind : (buildFrame kind addr tag seq offset body).kind = kind := by
  rw [Frame.kind, buildFrame_byte_two_toNat hkind]
  omega

theorem buildFrame_version : (buildFrame kind addr tag seq offset body).version = 1 := by
  rw [Frame.version, buildFrame_byte_two_toNat hkind]
  omega

end

/-- R25's four tests. -/
theorem validHeader_iff (f : Frame) :
    f.validHeader = true ↔
      14 ≤ f.length ∧ crc8 (f.take 13) = f.byte 13 ∧ (1 ≤ f.kind ∧ f.kind ≤ 4) ∧ f.version = 1 := by
  simp only [Frame.validHeader, Bool.and_eq_true, decide_eq_true_eq, beq_iff_eq, and_assoc]

theorem buildFrame_validHeader {kind : Nat} (h1 : 1 ≤ kind) (h4 : kind ≤ 4) (addr : BitVec 6) (tag seq : BitVec 16)
    (offset : Word) (body : List Word) : (buildFrame kind addr tag seq offset body).validHeader = true := by
  rw [validHeader_iff, buildFrame_kind h4, buildFrame_version h4]
  exact ⟨le_length_buildFrame _ _ _ _ _ _, buildFrame_check _ _ _ _ _ _, ⟨h1, h4⟩, rfl⟩

/-- Settles O6: the register loses nothing, and each field is read from the bytes it was laid out in. -/
theorem builtFramesReadBack : Obligations.BuiltFramesReadBack := by
  unfold Obligations.BuiltFramesReadBack
  refine ⟨by decide +kernel, crc8_append_eq_zero, fun kind addr tag seq offset body h1 h4 hbody => ?_⟩
  exact ⟨buildFrame_hasMarker _ _ _ _ _ _, buildFrame_validHeader h1 h4 _ _ _ _ _, buildFrame_kind h4 _ _ _ _ _,
    buildFrame_version h4 _ _ _ _ _, buildFrame_byte_three _ _ _ _ _ _, buildFrame_address _ _ _ _ _ _,
    buildFrame_tag _ _ _ _ _ _, buildFrame_sequence _ _ _ _ _ _, buildFrame_offset _ _ _ _ _ _,
    buildFrame_lengthField _ _ _ _ _ hbody, length_flatMap_wordBytes body, buildFrame_words _ _ _ _ _ hbody⟩

/-! ## The Classifier -/

/-- The marker is the first two bytes (R23). -/
theorem hasMarker_iff (f : Frame) : f.hasMarker = true ↔ f.take 2 = [0xB7, 0xE2] := by
  match f with
  | [] => simp [Frame.hasMarker]
  | [_] => simp [Frame.hasMarker]
  | a :: b :: t => simp [Frame.hasMarker]

variable {w : Window} {f : Frame}

theorem classify_of_noMarker (h : ¬ f.hasMarker = true) : classify w f = .notProbe := by simp [classify, h]

theorem classify_of_badHeader (hm : f.hasMarker = true) (hv : ¬ f.validHeader = true) : classify w f = .headerError := by
  simp [classify, hm, hv]

/-- A sound frame of a kind other than TEST is management (R25). -/
theorem classify_of_management (hm : f.hasMarker = true) (hv : f.validHeader = true) (hk : f.kind ≠ 1) :
    classify w f = .management (f.kind == 2) := by
  simp [classify, hm, hv, hk]

theorem WindowSize.value_le (size : WindowSize) : size.value ≤ 256 := by cases size <;> decide

/-- A sound TEST frame decodes to the stream the window gives its tag, or is foreign (R34). -/
theorem classify_of_test (hm : f.hasMarker = true) (hv : f.validHeader = true) (hk : f.kind = 1) :
    classify w f =
      if h : (f.tag - w.base).toNat < w.size.value then
        .testDecoded ⟨(f.tag - w.base).toNat, Nat.lt_of_lt_of_le h w.size.value_le⟩
      else .testForeign := by
  simp only [classify, hm, hv, hk, Window.decode, Bool.not_true, Bool.false_eq_true, if_false, beq_self_eq_true, if_true]
  by_cases h : (f.tag - w.base).toNat < w.size.value
  · have hlt := Nat.lt_of_lt_of_le h w.size.value_le
    have hstream : Fin.ofNat 256 (f.tag - w.base).toNat = ⟨_, hlt⟩ := Fin.ext (Nat.mod_eq_of_lt hlt)
    rw [if_pos h, dif_pos h, hstream]
  · rw [if_neg h, dif_neg h]

/-- Settles O7: the marker, then the four tests of a valid header, then the kind. -/
theorem classifierVerdicts : Obligations.ClassifierVerdicts := by
  unfold Obligations.ClassifierVerdicts
  refine ⟨rfl, fun w f => ⟨fun h => classify_of_noMarker (mt (hasMarker_iff f).mp h), fun h => ?_⟩⟩
  have hm := (hasMarker_iff f).mpr h
  refine ⟨fun hbad => classify_of_badHeader hm fun hv => ?_, fun hlen hcrc hversion => ?_⟩
  · obtain ⟨hlen, hcrc, hkind, hversion⟩ := (validHeader_iff f).mp hv
    rw [Frame.kind] at hkind
    rw [Frame.version] at hversion
    rcases hbad with hbad | hbad | hbad | hbad | hbad
    · omega
    · exact hbad hcrc
    · omega
    · omega
    · exact hbad hversion
  · have hv : 1 ≤ f.kind → f.kind ≤ 4 → f.validHeader = true := fun h1 h4 =>
      (validHeader_iff f).mpr ⟨hlen, hcrc, ⟨h1, h4⟩, hversion⟩
    have hmanagement : ∀ k, f.kind = k → 1 < k → k ≤ 4 → classify w f = .management (k == 2) := by
      rintro k rfl h1 h4
      exact classify_of_management hm (hv (by omega) h4) (by omega)
    refine ⟨fun hk => hmanagement 2 hk (by decide) (by decide), fun hk => ?_, fun hk => ?_⟩
    · rcases hk with hk | hk
      · exact hmanagement 3 hk (by decide) (by decide)
      · exact hmanagement 4 hk (by decide) (by decide)
    · exact classify_of_test hm (hv (Nat.le_of_eq hk.symm) (Nat.le_trans (Nat.le_of_eq hk) (by decide))) hk

/-! ## A looped test frame -/

/-- A stream below the window size is what the window gives its own tag (R35). -/
theorem stamp_sub_base (w : Window) (i : Fin 256) : (w.stamp i - w.base).toNat = i.val := by
  have hi := i.isLt
  rw [Window.stamp, BitVec.add_comm, BitVec.add_sub_cancel, BitVec.toNat_ofNat]
  exact Nat.mod_eq_of_lt (by omega)

/-- Settles O8: the built frame is a sound TEST frame with the stream's own tag. -/
theorem loopedFrameDecodesToItsStream : Obligations.LoopedFrameDecodesToItsStream := by
  unfold Obligations.LoopedFrameDecodesToItsStream
  intro s i hi _
  have htag : (buildTest s i).2.tag = s.window.stamp i := buildFrame_tag _ _ _ _ _ _
  refine ⟨?_, htag⟩
  have hdecode := classify_of_test (w := s.window) (f := (buildTest s i).2) (buildFrame_hasMarker _ _ _ _ _ _)
    (buildFrame_validHeader (by decide) (by decide) _ _ _ _ _) (buildFrame_kind (by decide) _ _ _ _ _)
  simp only [htag, stamp_sub_base] at hdecode
  rw [hdecode, dif_pos hi]

end Sys2Proof.Machine
end

section
/-! SUPPORT. Raises, notices and replies (R30, R31, R156, R158, R159, R166 to R168). -/

namespace Sys2Proof.Machine

variable (s : State)

/-- R158's two grounds for recording nothing, taken together. -/
theorem State.raiseDevice_eq (k : DeviceKind) (d1 d2 : Word) :
    s.raiseDevice k d1 d2 =
      if s.policy (.device k) = .disabled ∨ s.events.device.has k.code = true then s
      else if s.policy (.device k) = .high then
        (s.setEvents { s.events with device := s.events.device.insert k.code }).notify k.code 0xFFFF d1 d2
      else s.setEvents { s.events with device := s.events.device.insert k.code } := by
  obtain ⟨hold, hraise⟩ | ⟨hnew, hraise⟩ := s.raiseDevice_cases k d1 d2
  · rw [hraise, if_pos hold]
  · rw [if_neg (by simpa using hnew)]
    obtain ⟨hhigh, hraise⟩ | ⟨hlow, hraise⟩ := hraise
    · rw [hraise, if_pos hhigh]
    · rw [hraise, if_neg hlow]

theorem State.raiseStream_eq (i : Fin 256) (k : StreamKind) :
    s.raiseStream i k =
      if s.policy (.stream k) = .disabled ∨ (s.stream i).events.has k.code = true then s
      else
        let listed := if (s.stream i).events = 0 then s.events.listed ++ [i] else s.events.listed
        let s1 := (s.setStream i { s.stream i with events := (s.stream i).events.insert k.code }).setEvents
          { s.events with listed := listed }
        if s.policy (.stream k) = .high then s1.notify k.code (BitVec.ofNat 16 i.val) 0 0 else s1 := by
  unfold State.raiseStream
  by_cases hdisabled : s.policy (.stream k) = .disabled
  · rw [if_pos hdisabled, if_pos (.inl hdisabled)]
  · by_cases hpresent : (s.stream i).events.has k.code = true
    · rw [if_neg hdisabled, if_pos hpresent, if_pos (.inr hpresent)]
    · rw [if_neg hdisabled, if_neg hpresent, if_neg (not_or.mpr ⟨hdisabled, hpresent⟩)]

/-- Settles O48: the codes as listed, a raise by its grounds for recording nothing, notices and replies as built. -/
theorem raisesNoticesAndReplies : Obligations.RaisesNoticesAndReplies := by
  unfold Obligations.RaisesNoticesAndReplies
  exact ⟨rfl, rfl, rfl, rfl, fun _ => ⟨rfl, rfl⟩, fun _ => rfl, fun _ _ _ _ _ => rfl,
    fun s k d1 d2 => s.raiseDevice_eq k d1 d2, fun s i k => s.raiseStream_eq i k, fun _ _ _ _ => rfl⟩

end Sys2Proof.Machine
end

section
/-! SUPPORT. SET_WINDOW (R36, R37). -/

namespace Sys2Proof.Machine

variable {s : State} {f : ControlFrame} {rest : List ControlFrame}

theorem setWindowAct_of_length {ws : List Word} (h : ws.length ≠ 2) (s : State) : setWindowAct ws s = badLength s := by
  unfold setWindowAct
  split
  · exact absurd rfl h
  · rfl

/-- A size argument is one of the four values (R36). -/
theorem windowSizeOf_eq_some {w : Word} {size : WindowSize} : windowSizeOf w = some size ↔ size.value = w.toNat := by
  refine ⟨fun h => ?_, fun h => ?_⟩
  · unfold windowSizeOf at h
    split at h <;> cases h <;> exact Eq.symm (by assumption)
  · unfold windowSizeOf
    rw [← h]
    cases size <;> rfl

theorem windowSizeOf_eq_none {w : Word} (h : w ≠ 32 ∧ w ≠ 64 ∧ w ≠ 128 ∧ w ≠ 256) : windowSizeOf w = none := by
  obtain ⟨h32, h64, h128, h256⟩ := h
  have hvalue : ∀ n, n < 2 ^ 32 → w ≠ BitVec.ofNat 32 n → w.toNat ≠ n := by
    rintro n hn hne rfl
    exact hne (BitVec.eq_of_toNat_eq (by simp))
  unfold windowSizeOf
  split
  · exact absurd (by assumption) (hvalue 32 (by decide) h32)
  · exact absurd (by assumption) (hvalue 64 (by decide) h64)
  · exact absurd (by assumption) (hvalue 128 (by decide) h128)
  · exact absurd (by assumption) (hvalue 256 (by decide) h256)
  · rfl

theorem exists_windowSize {w : Word} (h : w = 32 ∨ w = 64 ∨ w = 128 ∨ w = 256) :
    ∃ size : WindowSize, size.value = w.toNat := by
  obtain rfl | rfl | rfl | rfl := h
  · exact ⟨.s32, rfl⟩
  · exact ⟨.s64, rfl⟩
  · exact ⟨.s128, rfl⟩
  · exact ⟨.s256, rfl⟩

theorem alignBase_toNat {base : Nat} (h : base ≤ 65535) (size : WindowSize) :
    (alignBase base size).toNat = base - base % size.value := by
  rw [alignBase, BitVec.toNat_ofNat]
  exact Nat.mod_eq_of_lt (by omega)

theorem activeFrom_iff_states (start : Nat) :
    s.activeFrom start = true ↔
      ∃ i : Fin 256, start ≤ i.val ∧ ((s.stream i).gen.state ≠ .idle ∨ (s.stream i).chk.sync ≠ .off) := by
  simp only [State.activeFrom_iff, Stream.active_iff, Checker.active_iff, Generator.active, bne_iff_ne, and_comm]

/-- R36's checks in order, and the window an accepted SET_WINDOW stores and answers (R37). -/
theorem finish_setWindowAct {wb ws : Word} {size : WindowSize} (hsize : size.value = ws.toNat) (s : State)
    (f : ControlFrame) (rest : List ControlFrame) :
    finish f (setWindowAct [wb, ws] (s.dequeue rest)) =
      if 65535 < wb.toNat then s.refuses f rest .outOfRange
      else if wb.toNat - wb.toNat % ws.toNat ≠ s.window.base.toNat ∧ s.activeFrom 0 = true then
        s.refuses f rest .windowInUse
      else if ws.toNat < s.window.size.value ∧ s.activeFrom ws.toNat = true then s.refuses f rest .windowInUse
      else
        State.replied
          { s.dequeue rest with
            window := { base := BitVec.ofNat 16 (wb.toNat - wb.toNat % ws.toNat), size := size } }
          f (.good [Word.ofNat (wb.toNat - wb.toNat % ws.toNat), ws]) := by
  have hactive : ∀ start, (s.dequeue rest).activeFrom start = s.activeFrom start := fun _ => rfl
  simp only [setWindowAct, windowSizeOf_eq_some.mpr hsize, setWindowTo, finish_checked_cons, finish_checked_nil, finish_mk,
    inRange_iff, Bool.or_eq_true, Bool.not_eq_true', decide_eq_true_eq, beq_iff_eq, hactive]
  refine ite_pass_eq_ite_refuse (by omega) fun hwb => ?_
  have haligned := alignBase_toNat (Nat.le_of_not_lt hwb) size
  refine ite_pass_eq_ite_refuse ?_ fun _ => ite_pass_eq_ite_refuse ?_ fun _ => ?_
  · rw [State.dequeue_window, ← BitVec.toNat_inj, haligned, hsize, not_and, Bool.not_eq_true, imp_iff_not_or, not_not]
  · rw [State.dequeue_window, hsize, not_and, Bool.not_eq_true, imp_iff_not_or, Nat.not_lt]
  · have hbase : (alignBase wb.toNat size).setWidth 32 = Word.ofNat (wb.toNat - wb.toNat % ws.toNat) := by
      apply BitVec.eq_of_toNat_eq
      rw [BitVec.toNat_setWidth, haligned, hsize, BitVec.toNat_ofNat]
    rw [hbase, hsize, Word.ofNat_toNat, alignBase, hsize]

/-- Settles O35, by R36's checks one after another. -/
theorem setWindow : Obligations.SetWindow := by
  unfold Obligations.SetWindow
  intro s f rest h
  have hrun := h.exec_eq (row := .setWindow) rfl setWindowAct
  refine ⟨fun wb ws hargs => ?_, fun hlen => ?_⟩
  · have hexec : exec .setWindow s = .next (finish f (setWindowAct [wb, ws] (s.dequeue rest))) := hargs ▸ hrun
    refine ⟨fun hbad => ?_, fun hwb hws => ⟨fun hmoved hused => ?_, fun hsmaller hused => ?_, fun hbase hkept => ?_⟩⟩
    · by_cases hsize : ws ≠ 32 ∧ ws ≠ 64 ∧ ws ≠ 128 ∧ ws ≠ 256
      · rw [hexec, setWindowAct, windowSizeOf_eq_none hsize]
        rfl
      · obtain ⟨size, hvalue⟩ := exists_windowSize (w := ws) (by tauto)
        rw [hexec, finish_setWindowAct hvalue, if_pos (hbad.resolve_right hsize)]
    all_goals
      obtain ⟨size, hvalue⟩ := exists_windowSize hws
      have hzero : s.activeFrom 0 = true ↔
          ∃ i : Fin 256, (s.stream i).gen.state ≠ .idle ∨ (s.stream i).chk.sync ≠ .off := by
        simpa using activeFrom_iff_states (s := s) 0
      rw [hexec, finish_setWindowAct hvalue, if_neg (Nat.not_lt.mpr hwb)]
    · rw [if_pos ⟨hmoved, hzero.mpr hused⟩]
    · have hpos : ws.toNat < s.window.size.value ∧ s.activeFrom ws.toNat = true :=
        ⟨hsmaller, (activeFrom_iff_states _).mpr hused⟩
      rw [if_pos hpos, ite_self]
    · refine ⟨size, hvalue, ?_⟩
      rw [if_neg, if_neg]
      · rintro ⟨hlt, hused⟩
        exact hkept.elim (fun hle => absurd hlt (Nat.not_lt.mpr hle)) (fun hn => hn ((activeFrom_iff_states _).mp hused))
      · rintro ⟨hne, hused⟩
        exact hbase.elim hne (fun hn => hn (hzero.mp hused))
  · refine hrun.trans ?_
    rw [setWindowAct_of_length hlen, finish_badLength]

end Sys2Proof.Machine
end

section
/-! SUPPORT. What is refused before a command executes: R166's orders 1 to 4 (R27, R29, R166, R167). -/

namespace Sys2Proof.Machine

/-! ## The action of a command row -/

/-- The action that the execution of a command row runs on the argument words. -/
def commandAction : Instr → Option (List Word → State → Answer × State)
  | .identify => some identifyAct
  | .echo => some echoAct
  | .resetEngine => some resetEngineAct
  | .setStream => some setStreamAct
  | .readStream => some readStreamAct
  | .clearCounts => some clearCountsAct
  | .startGen => some startGenAct
  | .stopGen => some stopGenAct
  | .setInject => some setInjectAct
  | .injectOne => some injectOneAct
  | .injectBurst => some injectBurstAct
  | .startChk => some startChkAct
  | .stopChk => some stopChkAct
  | .restartChk => some restartChkAct
  | .setLane => some setLaneAct
  | .readLane => some readLaneAct
  | .setWindow => some setWindowAct
  | .loadWords => some loadWordsAct
  | .readSegment => some readSegmentAct
  | .clearSegment => some clearSegmentAct
  | .wipeStore => some wipeStoreAct
  | .definePattern => some definePatternAct
  | .undefinePattern => some undefinePatternAct
  | .freezePattern => some freezePatternAct
  | .readPattern => some readPatternAct
  | .setGate => some setGateAct
  | .startGate => some startGateAct
  | .stopGate => some stopGateAct
  | .readGate => some readGateAct
  | .fetchResults => some fetchResultsAct
  | .releaseResults => some releaseResultsAct
  | .setRing => some setRingAct
  | .readRing => some readRingAct
  | .readEvents => some readEventsAct
  | .ackEvents => some ackEventsAct
  | .setEventPolicy => some setEventPolicyAct
  | _ => none

theorem exec_of_commandAction {c : Instr} {act : List Word → State → Answer × State} (h : commandAction c = some act)
    (s : State) : exec c s = runCommand c act s := by
  cases c <;> cases h <;> rfl

/-- Every row of the command index but UNKNOWN_COMMAND runs an action. -/
theorem exists_commandAction (n : Nat) : rowOfCode n = .unknownCommand ∨ ∃ act, commandAction (rowOfCode n) = some act := by
  unfold rowOfCode
  split
  case h_37 => exact .inl rfl
  all_goals exact .inr ⟨_, rfl⟩

/-! ## Argument counts -/

/-- The action answers BAD_LENGTH to the counts it does not accept, among those a frame can carry (R27, R166 order 4). -/
def RefusesCount (act : List Word → State → Answer × State) (accepts : Nat → Bool) : Prop :=
  ∀ ws s, ws.length ≤ 254 → accepts ws.length = false → act ws s = badLength s

section
variable {act : List Word → State → Answer × State}

theorem refusesCount_zero (h : ∀ a t s, act (a :: t) s = badLength s) : RefusesCount act (· == 0)
  | [], _, _, hbad => absurd hbad (by decide)
  | a :: t, s, _, _ => h a t s

theorem refusesCount_one (h0 : ∀ s, act [] s = badLength s) (h : ∀ a b t s, act (a :: b :: t) s = badLength s) :
    RefusesCount act (· == 1)
  | [], s, _, _ => h0 s
  | [_], _, _, hbad => absurd hbad (by simp)
  | a :: b :: t, s, _, _ => h a b t s

theorem refusesCount_two (h0 : ∀ s, act [] s = badLength s) (h1 : ∀ a s, act [a] s = badLength s)
    (h : ∀ a b c t s, act (a :: b :: c :: t) s = badLength s) : RefusesCount act (· == 2)
  | [], s, _, _ => h0 s
  | [a], s, _, _ => h1 a s
  | [_, _], _, _, hbad => absurd hbad (by simp)
  | a :: b :: c :: t, s, _, _ => h a b c t s

theorem refusesCount_three (h0 : ∀ s, act [] s = badLength s) (h1 : ∀ a s, act [a] s = badLength s)
    (h2 : ∀ a b s, act [a, b] s = badLength s) (h : ∀ a b c d t s, act (a :: b :: c :: d :: t) s = badLength s) :
    RefusesCount act (· == 3)
  | [], s, _, _ => h0 s
  | [a], s, _, _ => h1 a s
  | [a, b], s, _, _ => h2 a b s
  | [_, _, _], _, _, hbad => absurd hbad (by simp)
  | a :: b :: c :: d :: t, s, _, _ => h a b c d t s

end

theorem setGateAct_refusesCount : RefusesCount setGateAct (· == 6) := by
  intro ws s _ hbad
  unfold setGateAct
  split
  · exact absurd hbad (by simp)
  · rfl

theorem setStreamAct_refusesCount : RefusesCount setStreamAct (· == 16) := fun _ s _ hbad =>
  setStreamAct_of_length (by simpa using hbad) s

/-- LOAD_WORDS takes a segment and 1 to 64 data words (R70). -/
theorem loadWordsAct_refusesCount : RefusesCount loadWordsAct (fun n => decide (2 ≤ n) && decide (n ≤ 65))
  | [], _, _, _ => rfl
  | w :: data, s, _, hbad => by
    refine if_neg fun hcount => ?_
    simp only [List.length_cons, Bool.and_eq_false_iff, decide_eq_false_iff_not] at hbad
    omega

/-- No frame carries more arguments than ECHO accepts (R170). -/
theorem echoAct_refusesCount : RefusesCount echoAct (fun n => decide (n ≤ 254)) := fun _ _ hlen hbad =>
  absurd hlen (of_decide_eq_false hbad)

/-- Each command's action refuses the counts of R166's command index. -/
theorem commandAction_refusesCount {code : Byte} {act : List Word → State → Answer × State}
    (h : commandAction (rowOfCode code.toNat) = some act) : RefusesCount act (acceptsCount code) := by
  unfold acceptsCount
  generalize code.toNat = n at h
  unfold rowOfCode at h
  split at h <;> cases h
  case h_2 => exact echoAct_refusesCount
  case h_4 => exact setStreamAct_refusesCount
  case h_18 => exact loadWordsAct_refusesCount
  case h_26 => exact setGateAct_refusesCount
  case h_1 | h_3 | h_21 | h_33 | h_34 => exact refusesCount_zero fun _ _ _ => rfl
  case h_11 | h_16 | h_17 | h_35 | h_36 => exact refusesCount_two (fun _ => rfl) (fun _ _ => rfl) fun _ _ _ _ _ => rfl
  case h_9 | h_15 | h_19 | h_22 =>
    exact refusesCount_three (fun _ => rfl) (fun _ _ => rfl) (fun _ _ _ => rfl) fun _ _ _ _ _ _ => rfl
  all_goals exact refusesCount_one (fun _ => rfl) fun _ _ _ _ => rfl

/-- A frame carries at most 254 argument words (R27, R29). -/
theorem ControlFrame.args_length_le (f : ControlFrame) : f.args.length ≤ 254 := by
  have hwords : f.bytes.words.length ≤ f.bytes.lengthField := by
    rw [Frame.words, bytesWords_length, List.length_take]
    omega
  have hfield : f.bytes.lengthField < 2 ^ 8 := (f.bytes.byte 12).isLt
  rw [ControlFrame.args, List.length_tail]
  omega

/-! ## The frame at the head of the queue -/

variable {s : State} {f : ControlFrame} {rest : List ControlFrame}

theorem ControlFrame.badBody_iff (f : ControlFrame) :
    f.badBody = true ↔ f.bytes.lengthField = 0 ∨ f.bytes.body.length < 4 * f.bytes.lengthField := by
  rw [ControlFrame.badBody, Bool.or_eq_true, beq_iff_eq, Frame.short, decide_eq_true_iff]

theorem ControlFrame.row_of_badBody (h : f.badBody = true) : f.row = .unknownCommand := if_pos h

theorem ControlFrame.row_of_goodBody (h : f.badBody = false) : f.row = rowOfCode f.topByte.toNat :=
  ControlFrame.row_of_code h rfl

theorem knownCode_iff (code : Byte) : knownCode code = true ↔ rowOfCode code.toNat ≠ .unknownCommand := bne_iff_ne

theorem index_eq {n : Nat} {k : Fin (n + 1)} {w : Word} (h : w.toNat = k.val) : index (n + 1) w = k :=
  Fin.ext ((index_val (h ▸ k.isLt)).trans h)

/-- UNKNOWN_COMMAND's execution of a frame of its row (R166 orders 1 to 3). -/
theorem exec_unknownCommand (hr : s.ready = some (f, rest)) (hrow : f.row = .unknownCommand) :
    exec .unknownCommand s = .next ((s.dequeue rest).answer f (unknownAnswer f).1 (unknownAnswer f).2) := by
  simp [exec, execUnknownCommand, hr, hrow]

theorem unknownAnswer_of_badBody (h : f.badBody = true) : unknownAnswer f = (f.badBodyEcho, .fail .badLength) := if_pos h

theorem unknownAnswer_of_goodBody (h : f.badBody = false) : unknownAnswer f = (f.topByte, .fail .unknownCommand) := by
  simp [unknownAnswer, h]

theorem ControlFrame.badBodyEcho_of_zero (h : f.bytes.lengthField = 0) : f.badBodyEcho = 0 := if_pos h

/-- The echo of a short body: its first byte when there is a whole word, 0 when there is no byte, and between the two what
the open value says (log 13). -/
theorem ControlFrame.badBodyEcho_cases (h : f.bytes.lengthField ≠ 0) :
    (f.badBodyEcho = f.topByte ∨ f.badBodyEcho = 0) ∧ (4 ≤ f.bytes.body.length → f.badBodyEcho = f.topByte)
      ∧ (f.bytes.body = [] → f.badBodyEcho = 0) := by
  have hnil : f.bytes.body = [] ↔ f.bytes.body.length = 0 := List.length_eq_zero_iff.symm
  rw [hnil, ControlFrame.badBodyEcho, if_neg h]
  split_ifs with hfour hzero
  · exact ⟨.inl rfl, fun _ => rfl, fun h0 => by omega⟩
  · exact ⟨.inr rfl, fun h4 => absurd h4 hfour, fun _ => rfl⟩
  · exact ⟨.inl rfl, fun _ => rfl, fun h0 => absurd h0 hzero⟩
  · exact ⟨.inr rfl, fun h4 => absurd h4 hfour, fun _ => rfl⟩

/-- A known command with an argument count it does not accept (R166 order 4). -/
theorem exec_of_wrong_count (hr : s.ready = some (f, rest)) (hb : f.badBody = false) (hk : knownCode f.topByte = true)
    (hcount : acceptsCount f.topByte f.args.length = false) : exec f.row s = .next (s.refuses f rest .badLength) := by
  obtain ⟨act, hact⟩ := (exists_commandAction f.topByte.toNat).resolve_left ((knownCode_iff _).mp hk)
  have hrow := ControlFrame.row_of_goodBody hb
  rw [hrow, exec_of_commandAction hact, runCommand_of_ready hr hrow,
    commandAction_refusesCount hact _ _ f.args_length_le hcount]
  rfl

/-! ## A row the agent has no frame for -/

theorem runCommand_of_not_ready {row : Instr} {act : List Word → State → Answer × State}
    (h : ∀ f rest, s.ready = some (f, rest) → row ≠ f.row) : runCommand row act s = .next s := by
  obtain hnone | ⟨f, rest, hr, hrow, -⟩ := runCommand_cases row act s
  · exact hnone
  · exact absurd hrow.symm (h f rest hr)

theorem execUnknownCommand_of_not_ready (h : ∀ f rest, s.ready = some (f, rest) → .unknownCommand ≠ f.row) :
    execUnknownCommand s = .next s := by
  unfold execUnknownCommand
  split
  · rfl
  · exact if_neg (Ne.symm (h _ _ (by assumption)))

/-- A command's row changes nothing where the agent has no frame of that row to execute (log 1). -/
theorem exec_of_not_ready (n : Nat) (h : ∀ f rest, s.ready = some (f, rest) → rowOfCode n ≠ f.row) :
    exec (rowOfCode n) s = .next s := by
  obtain hunknown | ⟨act, hact⟩ := exists_commandAction n
  · rw [hunknown] at h ⊢
    exact execUnknownCommand_of_not_ready h
  · rw [exec_of_commandAction hact]
    exact runCommand_of_not_ready h

/-- Settles O31: R166's orders 1 to 4 one after another, and every command row by its action. -/
theorem refusedBeforeExecution : Obligations.RefusedBeforeExecution := by
  unfold Obligations.RefusedBeforeExecution
  refine ⟨fun s f rest => State.ready_eq_some, fun f => ⟨f.badBody_iff, rfl, rfl⟩, fun n k w => index_eq,
    fun s f rest hr => ⟨fun hzero => ?_, fun hne hshort => ?_, fun hb hk => ?_, fun hb hk => ?_, ?_⟩, ?_⟩
  · have hb := f.badBody_iff.mpr (.inl hzero)
    have hrow := ControlFrame.row_of_badBody hb
    refine ⟨hrow, (exec_unknownCommand hr hrow).trans ?_⟩
    rw [unknownAnswer_of_badBody hb, ControlFrame.badBodyEcho_of_zero hzero]
  · have hb := f.badBody_iff.mpr (.inr hshort)
    have hrow := ControlFrame.row_of_badBody hb
    refine ⟨hrow, f.badBodyEcho, (exec_unknownCommand hr hrow).trans ?_, ControlFrame.badBodyEcho_cases hne⟩
    rw [unknownAnswer_of_badBody hb]
  · have hrow : f.row = .unknownCommand := by
      rw [ControlFrame.row_of_goodBody hb]
      exact not_not.mp (mt (knownCode_iff _).mpr (Bool.eq_false_iff.mp hk))
    refine ⟨hrow, (exec_unknownCommand hr hrow).trans ?_⟩
    rw [unknownAnswer_of_goodBody hb]
    rfl
  · have hrow := ControlFrame.row_of_goodBody hb
    exact ⟨hrow, hrow ▸ (knownCode_iff _).mp hk⟩
  · exact exec_of_wrong_count hr
  · rintro s _ ⟨code, rfl⟩
    refine ⟨fun hnone => exec_of_not_ready _ fun f rest hr => ?_, fun f rest hr hne => exec_of_not_ready _ fun g rest' hr' => ?_⟩
    · rw [hnone] at hr
      cases hr
    · rw [hr] at hr'
      cases hr'
      exact hne

end Sys2Proof.Machine
end

section
/-! SUPPORT. INTERVAL_END and the steps of an interval end (R32, R139 to R142, R144, R149). -/

namespace Sys2Proof.Machine

/-! ## Steps 1 and 2: the batch and the members made fresh -/

section
variable (s : State) (g : Fin 4) (stop : Bool)

/-- What an interval end offers, it keeps or changes as an offer does; a gate without members offers nothing (R139). -/
theorem offerBatch_induction {P : State → Prop} (hnone : P s) (hoffer : ∀ batch, P (offer s batch)) :
    P (offerBatch s g stop) := by
  unfold offerBatch
  split
  · exact hnone
  · exact hoffer _

@[simp] theorem offerBatch_streams : (offerBatch s g stop).streams = s.streams :=
  offerBatch_induction s g stop (P := fun t => t.streams = s.streams) rfl (offer_streams s)
@[simp] theorem offerBatch_gates : (offerBatch s g stop).gates = s.gates :=
  offerBatch_induction s g stop (P := fun t => t.gates = s.gates) rfl (offer_gates s)
@[simp] theorem offerBatch_lanes : (offerBatch s g stop).lanes = s.lanes :=
  offerBatch_induction s g stop (P := fun t => t.lanes = s.lanes) rfl (offer_lanes s)
@[simp] theorem offerBatch_store : (offerBatch s g stop).store = s.store :=
  offerBatch_induction s g stop (P := fun t => t.store = s.store) rfl (offer_store s)
@[simp] theorem offerBatch_pulses : (offerBatch s g stop).pulses = s.pulses :=
  offerBatch_induction s g stop (P := fun t => t.pulses = s.pulses) rfl (offer_pulses s)
@[simp] theorem offerBatch_window : (offerBatch s g stop).window = s.window := (offerBatch_calm s g stop).window
@[simp] theorem offerBatch_policies : (offerBatch s g stop).events.policies = s.events.policies :=
  offerBatch_induction s g stop (P := fun t => t.events.policies = s.events.policies) rfl fun batch =>
    offer_induction s batch (P := fun t => t.events.policies = s.events.policies) rfl fun _ _ _ _ h => by simpa using h

/-- A member's record carries the gate that ends (R32). -/
theorem map_recordOf_members :
    (members s g).map (recordOf s g stop) =
      (members s g).map fun i =>
        { stream := i, gate := g, endState := (s.stream i).chk.sync, partialEnd := stop
          lateStart := (s.stream i).chk.lateStart, unlockedSeen := (s.stream i).chk.unlockedSeen
          staleSeen := (s.stream i).chk.staleSeen, number := (s.gate g).number, counts := (s.stream i).chk.ivl : Record } := by
  refine List.map_congr_left fun i hi => ?_
  rw [recordOf, (mem_members.mp hi).1]

theorem offerBatch_eq :
    offerBatch s g stop =
      if (members s g).map (recordOf s g stop) = [] then s else offer s ((members s g).map (recordOf s g stop)) := by
  unfold offerBatch
  split
  case h_1 h => rw [h, if_pos List.map_nil]
  case h_2 h => rw [if_neg (fun hmap => h (List.map_eq_nil_iff.mp hmap))]

end

theorem bne_locked (x : SyncState) : (x != .locked) = decide (x ≠ .locked) := by cases x <;> rfl

/-- A member's record made fresh, and any other record, in the statement's words (R137, R139). -/
theorem freshMember_eq (g : Fin 4) (r : Stream) :
    (if r.memberOf g then { r with chk := r.chk.freshInterval } else r) =
      if r.config.gate = g ∧ r.chk.sync ≠ .off then
        { r with
          chk :=
            { r.chk with
              ivl := .zero, lateStart := false, staleSeen := false
              unlockedSeen := decide (r.chk.sync ≠ .locked), tickErrors := 0
              tickUnlocked := decide (r.chk.sync ≠ .locked) } }
      else r := by
  have hmember : r.memberOf g = true ↔ r.config.gate = g ∧ r.chk.sync ≠ .off := by
    simp [Stream.memberOf, Checker.active]
  rw [if_congr hmember rfl rfl, Checker.freshInterval, bne_locked]

/-! ## Steps 1 to 6 -/

section
variable (s : State) (g : Fin 4) (stop : Bool) (base : Nat)

/-- The part before GATE_END is raised: the batch offered, the members fresh, the gate in its next interval. -/
def endedMembers : State :=
  { offerBatch s g stop with
    streams := tableMap (fun r => if r.memberOf g then { r with chk := r.chk.freshInterval } else r) s.streams
    gates := s.gates.set g (s.gate g).nextInterval }

/-- Steps 1 to 6 of an interval end, the pulse last (R139, R144). -/
theorem endInterval_eq :
    endInterval g stop base s =
      if (s.gate g).marks then
        { (endedMembers s g stop).raiseDevice .gateEnd (Word.ofNat g.val) (s.gate g).number with pulses := base + 1 }
      else (endedMembers s g stop).raiseDevice .gateEnd (Word.ofNat g.val) (s.gate g).number := by
  have hgate : (offerBatch s g stop).gate g = s.gate g := State.gate_congr (offerBatch_gates s g stop) g
  have hended : (freshMembers (offerBatch s g stop) g).setGate g
      ((freshMembers (offerBatch s g stop) g).gate g).nextInterval = endedMembers s g stop := by
    show ({ offerBatch s g stop with
      streams := tableMap _ (offerBatch s g stop).streams
      gates := (offerBatch s g stop).gates.set g ((offerBatch s g stop).gate g).nextInterval } : State) = _
    rw [hgate, offerBatch_streams, offerBatch_gates]
    rfl
  have hmarks : (((endedMembers s g stop).raiseDevice .gateEnd (Word.ofNat g.val) (s.gate g).number).gate g).marks
      = (s.gate g).marks := by
    rw [State.gate_congr (State.raiseDevice_gates _ _ _ _)]
    simp [endedMembers, State.gate, Gate.nextInterval]
  simp only [endInterval, hended, startPulse, hmarks]

/-- What GATE_END's raise and the pulse keep. -/
theorem endInterval_induction {P : State → Prop}
    (hraise : P ((endedMembers s g stop).raiseDevice .gateEnd (Word.ofNat g.val) (s.gate g).number))
    (hpulse : ∀ t n, P t → P { t with pulses := n }) : P (endInterval g stop base s) := by
  rw [endInterval_eq]
  split
  · exact hpulse _ _ hraise
  · exact hraise

@[simp] theorem endInterval_gates : (endInterval g stop base s).gates = s.gates.set g (s.gate g).nextInterval :=
  endInterval_induction s g stop base (P := fun t => t.gates = s.gates.set g (s.gate g).nextInterval)
    (by simp [endedMembers]) (fun _ _ h => h)
@[simp] theorem endInterval_store : (endInterval g stop base s).store = s.store :=
  endInterval_induction s g stop base (P := fun t => t.store = s.store) (by simp [endedMembers]) (fun _ _ h => h)
@[simp] theorem endInterval_lanes : (endInterval g stop base s).lanes = s.lanes :=
  endInterval_induction s g stop base (P := fun t => t.lanes = s.lanes) (by simp [endedMembers]) (fun _ _ h => h)
@[simp] theorem endInterval_window : (endInterval g stop base s).window = s.window := (endInterval_calm s g stop base).window

@[simp] theorem endInterval_pulses :
    (endInterval g stop base s).pulses = if (s.gate g).marks then base + 1 else s.pulses := by
  rw [endInterval_eq]
  split
  · rfl
  · simp [endedMembers]

theorem endInterval_gate (h : Fin 4) :
    (endInterval g stop base s).gate h = if g = h then (s.gate g).nextInterval else s.gate h := by
  rw [State.gate_congr (t := s.setGate g (s.gate g).nextInterval) (endInterval_gates s g stop base),
    State.gate_setGate]

/-- After a raise that its policy does not disable, the kind is pending (R158). -/
theorem has_raiseDevice {k : DeviceKind} (hk : s.policy (.device k) ≠ .disabled) (d1 d2 : Word) :
    (s.raiseDevice k d1 d2).events.device.has k.code = true := by
  have hinsert : (s.events.device.insert k.code).has k.code = true := by
    rw [KindSet.has_insert _ _ _ (by cases k <;> decide)]
    simp
  obtain ⟨hold, hraise⟩ | ⟨-, ⟨-, hraise⟩ | ⟨-, hraise⟩⟩ := s.raiseDevice_cases k d1 d2
  · rw [hraise]
    exact hold.resolve_left hk
  · rw [hraise, State.notify_device]
    exact hinsert
  · rw [hraise]
    exact hinsert

/-- GATE_END is pending after an interval end, unless it is DISABLED (R139 step 5). -/
theorem endInterval_has_gateEnd (hpolicy : s.policy (.device .gateEnd) ≠ .disabled) :
    (endInterval g stop base s).events.device.has 14 = true := by
  have hsame : (endedMembers s g stop).policy (.device .gateEnd) = s.policy (.device .gateEnd) := by
    simp [State.policy, endedMembers]
  exact endInterval_induction s g stop base (P := fun t => t.events.device.has 14 = true)
    (has_raiseDevice _ (hsame ▸ hpolicy) _ _) (fun _ _ h => h)

/-! ## Steps 7 and 8: the partner and the end of a SINGLE or stopped gate -/

theorem closeGate_false :
    closeGate g false s =
      if (s.gate g).mode = .single then s.setGate g { s.gate g with state := .idle } else s := by
  simp [closeGate]

theorem closeGate_gates :
    (closeGate g stop s).gates =
      s.gates.set g { s.gate g with
        state := if stop = true ∨ (s.gate g).mode = .single then .idle else (s.gate g).state } := by
  unfold closeGate
  split
  · rfl
  · exact (Vector.set_getElem_self _).symm

/-- Step 8 changes the gate alone. -/
theorem closeGate_eq : closeGate g stop s = { s with gates := (closeGate g stop s).gates } := by
  unfold closeGate
  split <;> rfl

theorem partner_congr {s t : State} (h : ∀ g, (t.gate g).source = (s.gate g).source) (g : Fin 4) :
    partner t g = partner s g := by
  rw [partner, partner, h, h]

/-- An interval end leaves every gate's source, so the partners, alone. -/
theorem partner_endInterval : partner (endInterval g stop base s) g = partner s g := by
  refine partner_congr (fun h => ?_) g
  rw [endInterval_gate]
  split
  case isTrue heq => rw [← heq, Gate.nextInterval]
  case isFalse => rfl

theorem feedPartner_eq (t : State) :
    feedPartner g base t =
      match partner t g with
      | none => t
      | some h =>
        match (t.gate h).state with
        | .idle => t
        | .armed => if (t.gate h).qualifier = .nextCount then openGate t h else t
        | .opened =>
          let counted := classifyMembers (t.setGate h { t.gate h with count := (t.gate h).count + 1 }) h
          if (t.gate h).count + 1 = (t.gate h).length then
            let u := endInterval h false base counted
            if (u.gate h).mode = .single then u.setGate h { u.gate h with state := .idle } else u
          else counted := by
  unfold feedPartner
  cases partner t g with
  | none => rfl
  | some h =>
    have hend : endAlone h base = fun counted =>
        let u := endInterval h false base counted
        if (u.gate h).mode = .single then u.setGate h { u.gate h with state := .idle } else u :=
      funext fun _ => closeGate_false _ h
    show countEventWith (endAlone h base) h t = _
    rw [hend]
    rfl

theorem feedPartner_of_none {t : State} (h : partner t g = none) : feedPartner g base t = t := by
  simp [feedPartner, h]

end

/-! ## INTERVAL_END -/

theorem countEvent_of_ending {s : State} {g : Fin 4} (base : Nat) (ho : (s.gate g).state = .opened)
    (hl : (s.gate g).count + 1 = (s.gate g).length) :
    countEvent base g s =
      intervalEnd g false base (classifyMembers (s.setGate g { s.gate g with count := (s.gate g).length }) g) := by
  simp [countEvent, countEventWith, ho, hl]

/-- Settles O27: the event, steps 1 to 6, steps 7 and 8, the partners, and the end of a gate without one. -/
theorem intervalEnds : Obligations.IntervalEnds := by
  unfold Obligations.IntervalEnds
  refine ⟨fun s g hr ho hl => ?_, fun s g hnot => ?_, fun s g stop base => ?_, fun s g stop base => ?_, fun s => ?_,
    fun s g stop base hp => ?_⟩
  · simp [exec, execIntervalEnd, hr, ho, hl, countEvent_of_ending s.pulses ho hl]
  · refine if_neg fun h => ?_
    simp only [Bool.and_eq_true, beq_iff_eq] at h
    obtain ⟨⟨-, ho⟩, hl⟩ := h
    exact hnot.elim (absurd ho) (absurd hl)
  · refine ⟨fun i => mem_members, members_increasing s g, fun i => tableMap_get _ _ i, ?_⟩
    rw [endInterval_eq, endedMembers, funext (freshMember_eq g), offerBatch_eq, map_recordOf_members]
    rfl
  · show closeGate g stop (feedPartner g base (endInterval g stop base s)) = _
    rw [feedPartner_eq, partner_endInterval]
    rfl
  · simp [partner]
  · have hclose : intervalEnd g stop base s = closeGate g stop (endInterval g stop base s) := by
      rw [intervalEnd, feedPartner_of_none g base (partner_endInterval s g stop base ▸ hp)]
    have hgate : (endInterval g stop base s).gate g = (s.gate g).nextInterval := by
      rw [endInterval_gate, if_pos rfl]
    have hgates := closeGate_gates (endInterval g stop base s) g stop
    rw [endInterval_gates, hgate, Vector.set_set] at hgates
    rw [hclose]
    refine ⟨hgates, ?_⟩
    rw [closeGate_eq]
    exact ⟨rfl, rfl, rfl, rfl, endInterval_has_gateEnd s g stop base, endInterval_pulses s g stop base,
      endInterval_store s g stop base, endInterval_lanes s g stop base, endInterval_window s g stop base⟩

end Sys2Proof.Machine
end

section
/-! SUPPORT. What a step can do to the lanes, the Result Ring, the agent's queues and the generators' pacing: a chain of the
effects listed here. Every other block changes freely (`Still`). An invariant of these blocks is proved by looking at each
effect once. -/

namespace Sys2Proof.Machine

/-! ## The effects -/

/-- What pacing and the egress modes read and write of a generator (R86, R89, R90). -/
def Generator.pace (g : Generator) : GenState × Nat × Bool := (g.state, g.countdown, g.due)

/-- The blocks the effects speak of are the same in `t` as in `s`; everything else may differ. -/
structure Still (s t : State) : Prop where
  lanes : t.lanes = s.lanes
  ring : t.ring = s.ring
  commands : t.agent.commands = s.agent.commands
  outbound : t.agent.outbound = s.agent.outbound
  waiting : t.agent.waiting = s.agent.waiting
  config : ∀ i, (t.stream i).config = (s.stream i).config
  pace : ∀ i, (t.stream i).gen.pace = (s.stream i).gen.pace

/-- The generator parts one event can leave in the record `r` of a stream whose egress lane is in mode `m`. -/
inductive GeneratorChange (r : Stream) (m : EgressMode) (g : Generator) : Prop
  /-- A pacing step short of its expiry (R89). -/
  | stepped (hrun : r.gen.state = .running) (hleft : r.gen.countdown - 1 ≠ 0)
      (h : g.pace = (.running, r.gen.countdown - 1, r.gen.due))
  /-- A pacing expiry (R89, R91). -/
  | expired (hrun : r.gen.state = .running) (h : g.pace = (.running, r.config.pacing, true))
  /-- A frame is built (R93). -/
  | built (h : g.pace = (r.gen.state, r.gen.countdown, false))
  /-- START_GEN (R87). -/
  | started (h : g.pace = (startedState m, r.config.pacing, false))
  /-- STOP_GEN (R88). -/
  | stopped (h : g.pace = (.idle, r.gen.countdown, false))

/-- A holding buffer before and after one event (R46). -/
inductive BufferChange : List Frame → List Frame → Prop
  | kept (b : List Frame) : BufferChange b b
  | pushed (b : List Frame) (f : Frame) (h : b.length < Config.bufferCapacity) : BufferChange b (b ++ [f])
  | popped (f : Frame) (b : List Frame) : BufferChange (f :: b) b

/-- A lane before and after an event that is no SET_LANE: its egress mode stays, and a lane in TEST buffers no client
frame (R43). -/
structure LaneChange (n n' : Lane) : Prop where
  egress : n'.egress = n.egress
  out : BufferChange n.egressBuf n'.egressBuf
  into : BufferChange n.ingressBuf n'.ingressBuf
  test : n.egress = .test → n.egressBuf = [] → n'.egressBuf = []

/-- The agent's queues before and after one event. -/
inductive AgentChange (a : Agent) : Agent → Prop
  /-- A control frame arrives (R165). -/
  | arrived (c : ControlFrame) (h : a.commands.length < Config.commandCapacity) :
      AgentChange a { a with commands := a.commands ++ [c] }
  /-- The head of the Command Queue is taken (R165, R166). -/
  | taken {f : ControlFrame} {rest : List ControlFrame} (h : a.commands = f :: rest) :
      AgentChange a { a with commands := rest }
  /-- A notice is queued (R159). -/
  | noticed (bytes : Frame) (h : a.outbound.length < Config.noticeShare) :
      AgentChange a { a with outbound := a.outbound ++ [⟨true, bytes⟩] }
  /-- A reply is queued (R167). -/
  | replied (bytes : Frame) (h : a.outbound.length < Config.outboundCapacity) :
      AgentChange a { a with outbound := a.outbound ++ [⟨false, bytes⟩] }
  /-- A reply waits (R167). -/
  | waits (bytes : Frame) (h : Config.outboundCapacity ≤ a.outbound.length) :
      AgentChange a { a with waiting := some ⟨false, bytes⟩ }
  /-- The waiting reply enters the queue (R167). -/
  | entered {r : OutFrame} (hr : a.waiting = some r) (h : a.outbound.length < Config.outboundCapacity) :
      AgentChange a { a with outbound := a.outbound ++ [r], waiting := none }
  /-- The oldest queued frame is sent, and no reply takes its place (R48). -/
  | sent {o : OutFrame} {rest : List OutFrame} (ho : a.outbound = o :: rest)
      (h : a.waiting = none ∨ Config.outboundCapacity ≤ rest.length) : AgentChange a { a with outbound := rest }
  /-- The oldest queued frame is sent, and the waiting reply takes its place (R48, R167). -/
  | exchanged {o r : OutFrame} {rest : List OutFrame} (ho : a.outbound = o :: rest) (hr : a.waiting = some r) :
      AgentChange a { a with outbound := rest ++ [r], waiting := none }

/-- The Result Ring before and after one event. -/
inductive RingChange (r : Ring) : Ring → Prop
  /-- A batch is offered (R148). -/
  | offered (batch : List Record) : RingChange r (r.take batch)
  /-- Records are released (R152). -/
  | released (k : Nat) : RingChange r { r with records := r.records.drop k }
  /-- The mark is set (R153). -/
  | marked (m : Nat) (hlow : 1 ≤ m) (hhigh : m ≤ Config.ringCapacity) : RingChange r { r with highWater := m }

/-- One effect on the part. -/
inductive Effect : State → State → Prop
  | still {s t : State} (h : Still s t) : Effect s t
  | generator {s : State} {i : Fin 256} {g : Generator}
      (h : GeneratorChange (s.stream i) (s.lane (s.stream i).config.egressLane).egress g) : Effect s (s.setGen i g)
  /-- SET_STREAM at a stream whose generator is IDLE (R17, R18). -/
  | configured {s : State} {i : Fin 256} (cfg : StreamConfig) (hidle : (s.stream i).gen.state = .idle)
      (hpacing : 1 ≤ cfg.pacing) : Effect s (s.setStream i { s.stream i with configured := true, config := cfg })
  | lane {s : State} {l : Fin 16} {n : Lane} (h : LaneChange (s.lane l) n) : Effect s (s.setLane l n)
  /-- SET_LANE (R51). -/
  | modes (s : State) (l : Fin 16) (eg : EgressMode) (ing : IngressMode) :
      Effect s ((s.mapStreams (fun r => r.atModeChange l (s.lane l).egress eg)).setLane l
        ((s.lane l).withModes eg ing))
  | agent {s : State} {a : Agent} (h : AgentChange s.agent a) : Effect s (s.setAgent a)
  | ring {s : State} {r : Ring} (h : RingChange s.ring r) : Effect s (s.setRing r)
  /-- RESET_ENGINE, which is executed while no reply waits (R166, R171). -/
  | engineReset {s : State} (h : s.agent.waiting = none) : Effect s (engineReset s)
  /-- HARDWARE_RESET (R172). -/
  | hardwareReset (s : State) : Effect s (hardwareReset s)

/-- Effects one after another. -/
abbrev Effects : State → State → Prop := Relation.ReflTransGen Effect

theorem Effect.effects {s t : State} (h : Effect s t) : Effects s t := .single h

theorem Still.effects {s t : State} (h : Still s t) : Effects s t := (Effect.still h).effects

/-- What every effect keeps, effects one after another keep. -/
theorem Effects.keeps {P : State → Prop} (heffect : ∀ {s t}, Effect s t → P s → P t) {s t : State} (h : Effects s t)
    (hs : P s) : P t := by
  induction h with
  | refl => exact hs
  | tail _ he ih => exact heffect he ih

/-- A fold of effects is effects. -/
theorem foldl_effects {α : Type} {f : State → α → State} (h : ∀ s a, Effects s (f s a)) (l : List α) (s : State) :
    Effects s (l.foldl f s) := by
  induction l generalizing s with
  | nil => exact .refl
  | cons a l ih => exact (h s a).trans (ih (f s a))

/-! ## What leaves these blocks alone -/

theorem Still.of_streams {s t : State} (lanes : t.lanes = s.lanes) (ring : t.ring = s.ring) (agent : t.agent = s.agent)
    (streams : t.streams = s.streams) : Still s t where
  lanes := lanes
  ring := ring
  commands := by rw [agent]
  outbound := by rw [agent]
  waiting := by rw [agent]
  config i := by rw [State.stream_congr streams]
  pace i := by rw [State.stream_congr streams]

theorem Still.setStream {s : State} {i : Fin 256} {r : Stream} (hconfig : r.config = (s.stream i).config)
    (hpace : r.gen.pace = (s.stream i).gen.pace) : Still s (s.setStream i r) where
  lanes := rfl
  ring := rfl
  commands := rfl
  outbound := rfl
  waiting := rfl
  config j := by
    rw [State.stream_setStream]
    split
    case isTrue h => rw [← h, hconfig]
    case isFalse => rfl
  pace j := by
    rw [State.stream_setStream]
    split
    case isTrue h => rw [← h, hpace]
    case isFalse => rfl

theorem Still.mapStreams {s : State} {f : Stream → Stream} (hconfig : ∀ r, (f r).config = r.config)
    (hpace : ∀ r, (f r).gen.pace = r.gen.pace) : Still s (s.mapStreams f) where
  lanes := rfl
  ring := rfl
  commands := rfl
  outbound := rfl
  waiting := rfl
  config i := by rw [State.stream_mapStreams, hconfig]
  pace i := by rw [State.stream_mapStreams, hpace]

variable (s : State)

theorem setGen_effects {i : Fin 256} {g : Generator} (h : g.pace = (s.stream i).gen.pace) : Effects s (s.setGen i g) :=
  (Still.setStream (r := { s.stream i with gen := g }) rfl h).effects

theorem setChk_effects (i : Fin 256) (c : Checker) : Effects s (s.setChk i c) :=
  (Still.setStream (r := { s.stream i with chk := c }) rfl rfl).effects

theorem setStore_effects (st : Store) : Effects s (s.setStore st) := Still.effects (.of_streams rfl rfl rfl rfl)

theorem setEvents_effects (e : EventUnit) : Effects s (s.setEvents e) := Still.effects (.of_streams rfl rfl rfl rfl)

theorem setGate_effects (g : Fin 4) (x : Gate) : Effects s (s.setGate g x) := Still.effects (.of_streams rfl rfl rfl rfl)

theorem startPulse_effects (g : Fin 4) (base : Nat) : Effects s (startPulse s g base) := by
  unfold startPulse
  split
  · exact Still.effects (.of_streams rfl rfl rfl rfl)
  · exact .refl

theorem freshMembers_effects (g : Fin 4) : Effects s (freshMembers s g) := by
  refine (Still.mapStreams (fun r => ?_) fun r => ?_).effects <;> split <;> rfl

/-! ## Notices, raises and replies -/

theorem notify_effects (code : Nat) (scope : BitVec 16) (d1 d2 : Word) : Effects s (s.notify code scope d1 d2) := by
  obtain ⟨hplace, h⟩ | ⟨-, h⟩ := s.notify_cases code scope d1 d2
  · rw [h]
    exact (Effect.agent (.noticed _ hplace)).effects
  · rw [h]
    exact setEvents_effects s _

theorem raiseDevice_effects (k : DeviceKind) (d1 d2 : Word) : Effects s (s.raiseDevice k d1 d2) := by
  obtain ⟨-, h⟩ | ⟨-, ⟨-, h⟩ | ⟨-, h⟩⟩ := s.raiseDevice_cases k d1 d2
  · rw [h]
  · rw [h]
    exact (setEvents_effects s _).trans (notify_effects _ _ _ _ _)
  · rw [h]
    exact setEvents_effects s _

theorem raiseStream_effects (i : Fin 256) (k : StreamKind) : Effects s (s.raiseStream i k) := by
  have hset := fun set => Still.effects (.setStream (s := s) (i := i) (r := { s.stream i with events := set }) rfl rfl)
  have hlist := fun set e => (hset set).trans (setEvents_effects _ e)
  rw [State.raiseStream_eq]
  simp only []
  split_ifs
  · exact .refl
  · exact (hlist _ _).trans (notify_effects _ _ _ _ _)
  · exact (hlist _ _).trans (notify_effects _ _ _ _ _)
  · exact hlist _ _
  · exact hlist _ _

theorem raiseAll_effects (i : Fin 256) (ks : List StreamKind) : Effects s (s.raiseAll i ks) :=
  foldl_effects (fun t k => raiseStream_effects t i k) ks s

theorem answer_effects (f : ControlFrame) (echo : Byte) (a : Answer) : Effects s (s.answer f echo a) := by
  unfold State.answer
  split
  · exact .refl
  · obtain ⟨hplace, h⟩ | ⟨hfull, h⟩ := s.sendReply_cases (replyFrame s.addr f echo a)
    · rw [h]
      exact (Effect.agent (.replied _ hplace)).effects
    · rw [h]
      exact (Effect.agent (.waits _ hfull)).effects

theorem enterWaiting_effects : Effects s (enterWaiting s) := by
  obtain ⟨r, hr, hplace, h⟩ | ⟨-, h⟩ := enterWaiting_cases s
  · rw [h]
    exact (Effect.agent (.entered hr hplace)).effects
  · rw [h]

/-! ## The checkers -/

theorem deliver_effects (i : Fin 256) (f : Frame) : Effects s (deliver s i f) :=
  (setChk_effects s i _).trans (raiseAll_effects _ _ _)

theorem expireSilence_effects (i : Fin 256) : Effects s (expireSilence s i) := by
  unfold expireSilence
  simp only []
  split
  · exact setChk_effects s i _
  · exact (setChk_effects s i _).trans (raiseStream_effects _ _ _)

theorem tickChecker_effects (i : Fin 256) : Effects s (tickChecker s i) := by
  unfold tickChecker
  simp only []
  split_ifs
  · exact expireSilence_effects s i
  · exact setChk_effects s i _
  · exact .refl

theorem restartChecker_effects (i : Fin 256) : Effects s (restartChecker s i) := by
  unfold restartChecker
  simp only []
  split
  · exact (setChk_effects s i _).trans (raiseStream_effects _ _ _)
  · exact setChk_effects s i _

/-! ## Gates and ticks -/

theorem classifyMember_effects (i : Fin 256) : Effects s (classifyMember s i) := by
  unfold classifyMember
  simp only []
  split
  · exact (setChk_effects s i _).trans (raiseStream_effects _ _ _)
  · exact setChk_effects s i _

theorem classifyMembers_effects (g : Fin 4) : Effects s (classifyMembers s g) :=
  foldl_effects classifyMember_effects _ s

theorem openGate_effects (g : Fin 4) : Effects s (openGate s g) :=
  (setGate_effects s g _).trans (freshMembers_effects _ g)

theorem offerBatch_effects (g : Fin 4) (stop : Bool) : Effects s (offerBatch s g stop) :=
  offerBatch_induction s g stop .refl fun batch =>
    offer_induction s batch (Effect.ring (.offered batch)).effects fun t k d1 d2 h =>
      h.trans (raiseDevice_effects t k d1 d2)

theorem endInterval_effects (g : Fin 4) (stop : Bool) (base : Nat) : Effects s (endInterval g stop base s) :=
  ((((offerBatch_effects s g stop).trans (freshMembers_effects _ g)).trans (setGate_effects _ _ _)).trans
    (raiseDevice_effects _ _ _ _)).trans (startPulse_effects _ _ _)

theorem closeGate_effects (g : Fin 4) (stop : Bool) : Effects s (closeGate g stop s) := by
  unfold closeGate
  split
  · exact setGate_effects s _ _
  · exact .refl

theorem countEventWith_effects {atEnd : State → State} (hend : ∀ s, Effects s (atEnd s)) (g : Fin 4) :
    Effects s (countEventWith atEnd g s) := by
  have hcount := fun x => (setGate_effects s g x).trans (classifyMembers_effects _ g)
  unfold countEventWith
  simp only []
  split
  case h_1 => exact .refl
  case h_2 =>
    split
    · exact openGate_effects s g
    · exact .refl
  case h_3 =>
    split
    · exact (hcount _).trans (hend _)
    · exact hcount _

theorem feedPartner_effects (g : Fin 4) (base : Nat) : Effects s (feedPartner g base s) := by
  unfold feedPartner
  split
  · exact countEventWith_effects s (fun s => (endInterval_effects s _ _ _).trans (closeGate_effects _ _ _)) _
  · exact .refl

theorem intervalEnd_effects (g : Fin 4) (stop : Bool) (base : Nat) : Effects s (intervalEnd g stop base s) :=
  ((endInterval_effects s _ _ _).trans (feedPartner_effects _ _ _)).trans (closeGate_effects _ _ _)

theorem countEvent_effects (base : Nat) (g : Fin 4) : Effects s (countEvent base g s) :=
  countEventWith_effects s (fun s => intervalEnd_effects s _ _ _) g

theorem tickGate_effects (source : GateSource) (base : Nat) (g : Fin 4) : Effects s (tickGate source base s g) := by
  unfold tickGate
  split
  · exact countEvent_effects s _ _
  · exact .refl

theorem tickGates_effects (source : GateSource) (order : List (Fin 4)) : Effects s (tickGates source order s) :=
  foldl_effects (fun s g => tickGate_effects s _ _ g) _ s

theorem tickSite_effects (base : Nat) (x : TickSite) : Effects s (tickSite base s x) := by
  cases x with
  | checker i => exact tickChecker_effects s i
  | gate g => exact tickGate_effects s _ _ g

theorem edgeGate_effects (base : Nat) (g : Fin 4) : Effects s (edgeGate base s g) := by
  unfold edgeGate
  simp only []
  split_ifs
  · exact openGate_effects s g
  · exact countEvent_effects s _ _
  · exact .refl

theorem stopGate_effects (g : Fin 4) : Effects s (stopGate s g) := by
  unfold stopGate
  split
  · exact .refl
  · exact setGate_effects s _ _
  · exact intervalEnd_effects s _ _ _

/-! ## Generators -/

theorem paceStream_effects {i : Fin 256} (hrun : (s.stream i).gen.state = .running) : Effects s (paceStream s i) := by
  have hgen := fun g h => (Effect.generator (s := s) (i := i) (g := g) h).effects
  unfold paceStream pacingReload
  simp only []
  split_ifs with hleft hdue
  · refine (hgen _ (.expired hrun ?_)).trans (raiseStream_effects _ _ _)
    simp [Generator.pace, hrun, hdue]
  · exact hgen _ (.expired hrun (by simp [Generator.pace, hrun]))
  · exact hgen _ (.stepped hrun hleft (by simp [Generator.pace, hrun]))

/-- A pacing step leaves every generator's state. -/
theorem paceStream_state (i j : Fin 256) : ((paceStream s i).stream j).gen.state = (s.stream j).gen.state := by
  have hset : ∀ g : Generator, g.state = (s.stream i).gen.state →
      ((s.setGen i g).stream j).gen.state = (s.stream j).gen.state := by
    intro g hg
    rw [State.stream_setGen]
    split
    case isTrue h => rw [← h, hg]
    case isFalse => rfl
  unfold paceStream pacingReload
  simp only []
  split_ifs
  · rw [State.raiseStream_stream_gen]
    exact hset _ rfl
  · exact hset _ rfl
  · exact hset _ rfl

theorem foldl_paceStream_effects (l : List (Fin 256)) (h : ∀ i ∈ l, (s.stream i).gen.state = .running) :
    Effects s (l.foldl paceStream s) := by
  induction l generalizing s with
  | nil => exact .refl
  | cons i l ih =>
    refine (paceStream_effects s (h i List.mem_cons_self)).trans (ih _ fun j hj => ?_)
    rw [paceStream_state]
    exact h j (List.mem_cons_of_mem _ hj)

/-- A lane's pacing steps its RUNNING generators alone (R89). -/
theorem paceLane_effects (l : Fin 16) : Effects s (paceLane s l) := by
  refine foldl_paceStream_effects s _ fun i hi => ?_
  simp only [mem_tableWhere, Stream.paces, Bool.and_eq_true, beq_iff_eq] at hi
  exact hi.1

theorem rateSource_pace (g : Generator) (w : Word) : (rateSource g w).1.pace = g.pace := by
  unfold rateSource
  split_ifs <;> rfl

theorem singleSource_pace (g : Generator) (w : Word) : (singleSource g w).1.pace = g.pace := by
  unfold singleSource
  split <;> rfl

theorem burstSource_pace (g : Generator) (w : Word) : (burstSource g w).1.pace = g.pace := by
  unfold burstSource
  split <;> rfl

/-- Injection leaves a generator's pacing (R95 to R97). -/
theorem injectWords_pace (g : Generator) (ws : List Word) : (injectWords g ws).1.pace = g.pace := by
  induction ws generalizing g with
  | nil => rfl
  | cons w ws ih => rw [injectWords, ih, injectWord, burstSource_pace, singleSource_pace, rateSource_pace]

/-- Building a frame clears due and leaves the rest of the pacing (R93). -/
theorem buildTest_pace (i : Fin 256) :
    (buildTest s i).1.pace = ((s.stream i).gen.state, (s.stream i).gen.countdown, false) := by
  have h := injectWords_pace (s.stream i).gen
    (takeWords s.store (s.stream i).config.kind (s.stream i).config.invert (s.stream i).config.payloadLen
      (s.stream i).gen.pat).1
  simp only [Generator.pace, Prod.mk.injEq] at h
  obtain ⟨hstate, hcountdown, -⟩ := h
  simp [buildTest, Generator.pace, hstate, hcountdown]

/-! ## Lanes -/

variable {s} {l : Fin 16}

/-- A lane whose mode and buffers stay. -/
theorem LaneChange.kept {n n' : Lane} (egress : n'.egress = n.egress) (out : n'.egressBuf = n.egressBuf)
    (into : n'.ingressBuf = n.ingressBuf) : LaneChange n n' where
  egress := egress
  out := out ▸ .kept _
  into := into ▸ .kept _
  test _ hempty := out.trans hempty

theorem setLane_kept_effects {n : Lane} (egress : n.egress = (s.lane l).egress) (out : n.egressBuf = (s.lane l).egressBuf)
    (into : n.ingressBuf = (s.lane l).ingressBuf) : Effects s (s.setLane l n) :=
  (Effect.lane (.kept egress out into)).effects

theorem takeControl_effects (broadcast : Bool) (f : Frame) : Effects s (takeControl s broadcast f) := by
  unfold takeControl
  split
  case isTrue hplace => exact (Effect.agent (.arrived _ hplace)).effects
  case isFalse =>
    have hcount : Still s (s.setAgent { s.agent with overruns := satAdd s.agent.overruns 1 }) :=
      ⟨rfl, rfl, rfl, rfl, rfl, fun _ => rfl, fun _ => rfl⟩
    exact hcount.effects.trans (raiseDevice_effects _ _ _ _)

theorem takeClient_effects (l : Fin 16) (f : Frame) : Effects s (takeClient s l f) := by
  unfold takeClient
  simp only []
  split_ifs with htest hplace
  · exact setLane_kept_effects rfl rfl rfl
  · exact Effect.effects (.lane ⟨rfl, .pushed _ f hplace, .kept _, fun h => absurd h htest⟩)
  · refine .trans ?_ (raiseDevice_effects _ _ _ _)
    exact setLane_kept_effects rfl rfl rfl

theorem forward_effects (l : Fin 16) (f : Frame) : Effects s (forward s l f) := by
  unfold forward
  simp only []
  split_ifs with hplace
  · exact Effect.effects (.lane ⟨rfl, .kept _, .pushed _ f hplace, fun _ h => h⟩)
  · refine .trans ?_ (raiseDevice_effects _ _ _ _)
    exact setLane_kept_effects rfl rfl rfl

theorem countLane_effects (l : Fin 16) (f : LaneCounters → LaneCounters) : Effects s (s.countLane l f) :=
  setLane_kept_effects rfl rfl rfl

theorem countVerdict_effects (l : Fin 16) (v : Verdict) : Effects s (countVerdict s l v) := by
  unfold countVerdict
  split
  · exact .refl
  · exact .refl
  · exact countLane_effects l _
  · split
    · exact .refl
    · exact countLane_effects l _
  · split_ifs
    · exact .refl
    · exact countLane_effects l _
    · exact countLane_effects l _

theorem sendTest_effects (l : Fin 16) (i : Fin 256) : Effects s (sendTest s l i) :=
  (Effect.generator (.built (buildTest_pace s i))).effects.trans (setLane_kept_effects rfl rfl rfl)

theorem sendClient_effects (l : Fin 16) : Effects s (sendClient s l) := by
  unfold sendClient
  simp only []
  split
  case h_1 f rest hbuf =>
    split
    case isTrue => exact setLane_kept_effects rfl rfl rfl
    case isFalse htest => exact Effect.effects (.lane ⟨rfl, hbuf ▸ .popped f rest, .kept _, fun h => absurd h htest⟩)
  case h_2 => exact setLane_kept_effects rfl rfl rfl

theorem serveLineOut_effects (l : Fin 16) : Effects s (serveLineOut s l) := by
  unfold serveLineOut
  split
  · exact sendTest_effects l _
  · exact sendClient_effects l

theorem sendForwarded_effects (l : Fin 16) : Effects s (sendForwarded s l) := by
  unfold sendForwarded
  simp only []
  split
  case h_1 f rest hbuf => exact Effect.effects (.lane ⟨rfl, .kept _, hbuf ▸ .popped f rest, fun _ h => h⟩)
  case h_2 => exact setLane_kept_effects rfl rfl rfl

/-- A frame of the Outbound Queue is sent on lane 0, and the waiting reply takes the place it leaves, if there is a reply
and a place (R48, R167). -/
theorem sendOutbound_eq (s : State) (o : OutFrame) (rest : List OutFrame) :
    sendOutbound s o rest =
      (s.setLane 0 { s.lane 0 with clientOut := some o.bytes }).setAgent
        (match s.agent.waiting with
        | none => { s.agent with outbound := rest }
        | some r =>
          if rest.length < Config.outboundCapacity then { s.agent with outbound := rest ++ [r], waiting := none }
          else { s.agent with outbound := rest }) := by
  cases hw : s.agent.waiting with
  | none => simp [sendOutbound, enterWaiting, hw, State.setAgent, State.setLane]
  | some r =>
    by_cases hplace : rest.length < Config.outboundCapacity
    · simp [sendOutbound, enterWaiting, hw, hplace, State.setAgent, State.setLane]
    · simp [sendOutbound, enterWaiting, hw, hplace, State.setAgent, State.setLane]

theorem sendOutbound_effects {o : OutFrame} {rest : List OutFrame} (ho : s.agent.outbound = o :: rest) :
    Effects s (sendOutbound s o rest) := by
  rw [sendOutbound_eq]
  refine .trans ?_ (Effect.effects (.agent ?_))
  · exact setLane_kept_effects rfl rfl rfl
  rw [State.setLane_agent]
  split
  case h_1 hw => exact .sent ho (.inl hw)
  case h_2 r hw =>
    split
    case isTrue => exact .exchanged ho hw
    case isFalse hfull => exact .sent ho (.inr (Nat.le_of_not_lt hfull))

/-! ## The store -/

theorem completeClear_effects (g : Fin 64) : Effects s (completeClear s g) :=
  ((setStore_effects s _).trans (raiseDevice_effects _ _ _ _)).trans (setStore_effects _ _)

end Sys2Proof.Machine
end

section
/-! SUPPORT. Every event is a chain of effects. -/

namespace Sys2Proof.Machine

/-! ## The commands -/

variable (s : State) (ws : List Word)

theorem identifyAct_effects : Effects s (identifyAct ws s).2 := by
  unfold identifyAct
  split <;> exact .refl

theorem echoAct_effects : Effects s (echoAct ws s).2 := .refl

/-- An engine reset is executed while no reply waits (R166). -/
theorem resetEngineAct_effects (h : s.agent.waiting = none) : Effects s (resetEngineAct ws s).2 := by
  unfold resetEngineAct
  split
  · exact Effect.effects (.engineReset h)
  · exact .refl

theorem setStreamAct_effects : Effects s (setStreamAct ws s).2 := by
  unfold setStreamAct
  split
  · refine checked_keeps .refl fun h => ?_
    simp only [List.mem_cons, List.not_mem_nil, or_false, forall_eq_or_imp, forall_eq, Bool.not_eq_true'] at h
    obtain ⟨-, hidle, -, -, -, -, -, -, -, -, hpace, -⟩ := h
    exact Effect.effects (.configured _ ((Stream.inactive_iff _).mp hidle).1 ((inRange_iff _ _ _).mp hpace).1)
  · exact .refl

theorem readStreamAct_effects : Effects s (readStreamAct ws s).2 := by
  unfold readStreamAct
  split
  · exact checked_keeps .refl fun _ => .refl
  · exact .refl

theorem clearCountsAct_effects : Effects s (clearCountsAct ws s).2 := by
  unfold clearCountsAct
  split
  · exact checked_keeps .refl fun _ => Still.effects (.setStream rfl rfl)
  · exact .refl

theorem startGenAct_effects : Effects s (startGenAct ws s).2 := by
  unfold startGenAct
  split
  · exact checked_keeps .refl fun _ => (Effect.effects (.generator (.started rfl))).trans (setStore_effects _ _)
  · exact .refl

theorem stopGenAct_effects : Effects s (stopGenAct ws s).2 := by
  unfold stopGenAct
  split
  · exact checked_keeps .refl fun _ => (Effect.effects (.generator (.stopped rfl))).trans (setStore_effects _ _)
  · exact .refl

theorem setInjectAct_effects : Effects s (setInjectAct ws s).2 := by
  unfold setInjectAct
  split
  · exact checked_keeps .refl fun _ => setGen_effects s rfl
  · exact .refl

theorem injectOneAct_effects : Effects s (injectOneAct ws s).2 := by
  unfold injectOneAct
  split
  · exact checked_keeps .refl fun _ => setGen_effects s rfl
  · exact .refl

theorem injectBurstAct_effects : Effects s (injectBurstAct ws s).2 := by
  unfold injectBurstAct
  split
  · exact checked_keeps .refl fun _ => setGen_effects s rfl
  · exact .refl

theorem startChkAct_effects : Effects s (startChkAct ws s).2 := by
  unfold startChkAct
  split
  · exact checked_keeps .refl fun _ => (setChk_effects s _ _).trans (setStore_effects _ _)
  · exact .refl

theorem stopChkAct_effects : Effects s (stopChkAct ws s).2 := by
  unfold stopChkAct
  split
  · exact checked_keeps .refl fun _ => (setChk_effects s _ _).trans (setStore_effects _ _)
  · exact .refl

theorem restartChkAct_effects : Effects s (restartChkAct ws s).2 := by
  unfold restartChkAct
  split
  · exact checked_keeps .refl fun _ => restartChecker_effects s _
  · exact .refl

theorem setLaneAct_effects : Effects s (setLaneAct ws s).2 := by
  unfold setLaneAct
  split
  · exact checked_keeps .refl fun _ => Effect.effects (.modes s _ _ _)
  · exact .refl

theorem readLaneAct_effects : Effects s (readLaneAct ws s).2 := by
  unfold readLaneAct
  split
  · refine checked_keeps .refl fun _ => ?_
    split
    · exact setLane_kept_effects rfl rfl rfl
    · exact .refl
  · exact .refl

theorem setWindowAct_effects : Effects s (setWindowAct ws s).2 := by
  unfold setWindowAct
  split
  · split
    · exact .refl
    · exact checked_keeps .refl fun _ => checked_keeps .refl fun _ => Still.effects (.of_streams rfl rfl rfl rfl)
  · exact .refl

theorem loadWordsAct_effects : Effects s (loadWordsAct ws s).2 := by
  unfold loadWordsAct
  split
  · split
    · exact checked_keeps .refl fun _ => setStore_effects s _
    · exact .refl
  · exact .refl

theorem readSegmentAct_effects : Effects s (readSegmentAct ws s).2 := by
  unfold readSegmentAct
  split
  · exact checked_keeps .refl fun _ => .refl
  · exact .refl

theorem clearSegmentAct_effects : Effects s (clearSegmentAct ws s).2 := by
  unfold clearSegmentAct
  split
  · exact checked_keeps .refl fun _ => setStore_effects s _
  · exact .refl

theorem wipeStoreAct_effects : Effects s (wipeStoreAct ws s).2 := by
  unfold wipeStoreAct
  split
  · exact checked_keeps .refl fun _ => setStore_effects s _
  · exact .refl

theorem definePatternAct_effects : Effects s (definePatternAct ws s).2 := by
  unfold definePatternAct
  split
  · exact checked_keeps .refl fun _ => setStore_effects s _
  · exact .refl

theorem undefinePatternAct_effects : Effects s (undefinePatternAct ws s).2 := by
  unfold undefinePatternAct
  split
  · exact checked_keeps .refl fun _ => setStore_effects s _
  · exact .refl

theorem freezePatternAct_effects : Effects s (freezePatternAct ws s).2 := by
  unfold freezePatternAct
  split
  · exact checked_keeps .refl fun _ => setStore_effects s _
  · exact .refl

theorem readPatternAct_effects : Effects s (readPatternAct ws s).2 := by
  unfold readPatternAct
  split
  · exact checked_keeps .refl fun _ => .refl
  · exact .refl

theorem setGateAct_effects : Effects s (setGateAct ws s).2 := by
  unfold setGateAct
  split
  · exact checked_keeps .refl fun _ => setGate_effects s _ _
  · exact .refl

theorem startGateAct_effects : Effects s (startGateAct ws s).2 := by
  unfold startGateAct
  split
  · exact checked_keeps .refl fun _ => setGate_effects s _ _
  · exact .refl

theorem stopGateAct_effects : Effects s (stopGateAct ws s).2 := by
  unfold stopGateAct
  split
  · exact checked_keeps .refl fun _ => stopGate_effects s _
  · exact .refl

theorem readGateAct_effects : Effects s (readGateAct ws s).2 := by
  unfold readGateAct
  split
  · exact checked_keeps .refl fun _ => .refl
  · exact .refl

theorem fetchResultsAct_effects : Effects s (fetchResultsAct ws s).2 := by
  unfold fetchResultsAct
  split
  · exact checked_keeps .refl fun _ => .refl
  · exact .refl

theorem releaseResultsAct_effects : Effects s (releaseResultsAct ws s).2 := by
  unfold releaseResultsAct
  split
  · exact checked_keeps .refl fun _ => Effect.effects (.ring (.released _))
  · exact .refl

theorem setRingAct_effects : Effects s (setRingAct ws s).2 := by
  unfold setRingAct
  split
  · refine checked_keeps .refl fun h => ?_
    simp only [List.mem_cons, List.not_mem_nil, or_false, forall_eq, inRange_iff] at h
    exact Effect.effects (.ring (.marked _ h.1 h.2))
  · exact .refl

theorem readRingAct_effects : Effects s (readRingAct ws s).2 := by
  unfold readRingAct
  split <;> exact .refl

theorem readEventsAct_effects : Effects s (readEventsAct ws s).2 := by
  unfold readEventsAct
  split <;> exact .refl

theorem ackStream_effects (i : Fin 256) (mask : KindSet) : Effects s (ackStream s i mask) := by
  refine .trans ?_ (setEvents_effects _ _)
  exact Still.effects (.setStream rfl rfl)

theorem ackEventsAct_effects : Effects s (ackEventsAct ws s).2 := by
  unfold ackEventsAct
  split
  · split
    · exact checked_keeps .refl fun _ => setEvents_effects s _
    · exact checked_keeps .refl fun _ => ackStream_effects s _ _
  · exact .refl

theorem withdrawKind_effects (k : Kind) : Effects s (withdrawKind s k) := by
  cases k with
  | device k => exact setEvents_effects s _
  | stream k =>
    refine .trans ?_ (setEvents_effects _ _)
    exact Still.effects (.mapStreams (fun _ => rfl) fun _ => rfl)

theorem setPolicy_effects (k : Kind) (p : Policy) : Effects s (setPolicy s k p) := by
  unfold setPolicy
  simp only []
  split
  · exact (setEvents_effects s _).trans (withdrawKind_effects _ k)
  · exact setEvents_effects s _

theorem setEventPolicyAct_effects : Effects s (setEventPolicyAct ws s).2 := by
  unfold setEventPolicyAct
  split
  · split
    · exact .refl
    · exact checked_keeps .refl fun _ => setPolicy_effects s _ _
  · exact .refl

/-! ## Every row -/

variable {s} {t : State}

/-- The frame the agent executes leaves the Command Queue, and no reply waits then (R165, R166). -/
theorem dequeue_effects {f : ControlFrame} {rest : List ControlFrame} (h : s.ready = some (f, rest)) :
    Effects s (s.dequeue rest) ∧ (s.dequeue rest).agent.waiting = none := by
  obtain ⟨-, hwaiting, hcommands⟩ := State.ready_eq_some.mp h
  exact ⟨Effect.effects (.agent (.taken hcommands)), hwaiting⟩

/-- A command is effects when its action is, executed while no reply waits. -/
theorem runCommand_effects_of_idle {row : Instr} {act : List Word → State → Answer × State}
    (hact : ∀ s ws, s.agent.waiting = none → Effects s (act ws s).2) (h : runCommand row act s = .next t) :
    Effects s t := by
  obtain hnone | ⟨f, rest, hready, -, hrun⟩ := runCommand_cases row act s
  · rw [hnone] at h
    cases h
    exact .refl
  · rw [hrun] at h
    cases h
    obtain ⟨htake, hwaiting⟩ := dequeue_effects hready
    exact (htake.trans (hact _ _ hwaiting)).trans (answer_effects _ _ _ _)

theorem runCommand_effects {row : Instr} {act : List Word → State → Answer × State}
    (hact : ∀ s ws, Effects s (act ws s).2) (h : runCommand row act s = .next t) : Effects s t :=
  runCommand_effects_of_idle (fun s ws _ => hact s ws) h

theorem execUnknownCommand_effects (h : execUnknownCommand s = .next t) : Effects s t := by
  unfold execUnknownCommand at h
  split at h
  case h_1 => cases h; exact .refl
  case h_2 f rest hready =>
    split at h
    · cases h; exact (dequeue_effects hready).1.trans (answer_effects _ _ _ _)
    · cases h; exact .refl

theorem execClientInArrival_effects {l : Fin 16} {f : Frame} (h : execClientInArrival l f s = .next t) :
    Effects s t := by
  unfold execClientInArrival at h
  split at h
  · split at h
    · cases h; exact takeControl_effects _ _
    · cases h; exact (takeControl_effects _ _).trans (takeClient_effects _ _)
    · cases h; exact takeClient_effects _ _
  · cases h; exact .refl

theorem execLineInArrival_effects {l : Fin 16} {f : Frame} {b : Bool} (h : execLineInArrival l f b s = .next t) :
    Effects s t := by
  have hcount := countVerdict_effects (s := s) l (classify s.window f)
  unfold execLineInArrival at h
  simp only [] at h
  split at h
  · split at h
    · split_ifs at h
      · cases h; exact (hcount.trans (forward_effects l f)).trans (deliver_effects _ _ _)
      · cases h; exact (hcount.trans (deliver_effects _ _ _)).trans (forward_effects l f)
      · cases h; exact hcount.trans (deliver_effects _ _ _)
      · cases h; exact hcount.trans (forward_effects l f)
    · cases h; exact hcount.trans (forward_effects l f)
  · cases h; exact .refl

theorem execLineOutOpportunity_effects {l : Fin 16} (h : execLineOutOpportunity l s = .next t) : Effects s t := by
  unfold execLineOutOpportunity at h
  split at h
  · split at h
    · cases h; exact sendClient_effects l
    · cases h; exact (paceLane_effects s l).trans (serveLineOut_effects l)
  · cases h; exact .refl

theorem execClientOutOpportunity_effects {l : Fin 16} (h : execClientOutOpportunity l s = .next t) : Effects s t := by
  unfold execClientOutOpportunity at h
  split at h
  · split at h
    case h_1 ho =>
      split at h
      · cases h; exact sendOutbound_effects ho
      · cases h; exact sendForwarded_effects l
    case h_2 => cases h; exact sendForwarded_effects l
  · cases h; exact .refl

theorem execPacingExpiry_effects {i : Fin 256} (h : execPacingExpiry i s = .next t) : Effects s t := by
  unfold execPacingExpiry at h
  split at h
  case isTrue hexpires =>
    simp only [Bool.and_eq_true, beq_iff_eq] at hexpires
    obtain ⟨⟨-, hrun⟩, -⟩ := hexpires
    cases h
    exact paceStream_effects s hrun
  case isFalse => cases h; exact .refl

theorem execRateInjection_effects {i : Fin 256} {w : Word} (h : execRateInjection i w s = .next t) : Effects s t := by
  unfold execRateInjection at h
  simp only [] at h
  split at h
  · cases h
    refine (setGen_effects s (i := i) (g := (rateFlip (s.stream i).gen w).1) rfl).trans ?_
    exact Still.effects (.of_streams rfl rfl rfl rfl)
  · cases h; exact .refl

/-- An event that does nothing under a reset, and effects otherwise. -/
theorem running_effects {u : State} (hu : Effects s u) (h : (if s.inReset then .next s else .next u : Result) = .next t) :
    Effects s t := by
  split at h
  · cases h; exact .refl
  · cases h; exact hu

theorem execT1ms_effects {order : List TickSite} (h : execT1ms order s = .next t) : Effects s t := by
  refine running_effects ?_ h
  refine .trans ?_ (foldl_effects (fun s x => tickSite_effects s _ x) _ _)
  exact Still.effects (.of_streams rfl rfl rfl rfl)

theorem execSilenceExpiry_effects {i : Fin 256} (h : execSilenceExpiry i s = .next t) : Effects s t := by
  unfold execSilenceExpiry at h
  split at h
  · cases h; exact expireSilence_effects s i
  · cases h; exact .refl

theorem execIntervalEnd_effects {g : Fin 4} (h : execIntervalEnd g s = .next t) : Effects s t := by
  unfold execIntervalEnd at h
  split at h
  · cases h; exact countEvent_effects s _ g
  · cases h; exact .refl

theorem execClearCompletion_effects (h : execClearCompletion s = .next t) : Effects s t := by
  unfold execClearCompletion at h
  split at h
  · exact running_effects (completeClear_effects _) h
  · cases h; exact .refl

theorem execWipeCompletion_effects (h : execWipeCompletion s = .next t) : Effects s t := by
  unfold execWipeCompletion at h
  split at h
  · cases h; exact (setStore_effects s _).trans (raiseDevice_effects _ _ _ _)
  · cases h; exact .refl

theorem execResetRelease_effects {a : BitVec 6} {n : BitVec 2} (h : execResetRelease a n s = .next t) : Effects s t := by
  unfold execResetRelease at h
  split at h
  · cases h; exact Still.effects (.of_streams rfl rfl rfl rfl)
  · cases h; exact .refl

/-- Every event is a chain of effects. -/
theorem exec_effects {c : Instr} (h : exec c s = .next t) : Effects s t := by
  cases c with
  | clientInArrival l f => exact execClientInArrival_effects h
  | lineInArrival l f b => exact execLineInArrival_effects h
  | lineOutOpportunity l => exact execLineOutOpportunity_effects h
  | pacingExpiry i => exact execPacingExpiry_effects h
  | rateInjection i w => exact execRateInjection_effects h
  | clientOutOpportunity l => exact execClientOutOpportunity_effects h
  | waitingReplyEntry => exact running_effects (enterWaiting_effects s) h
  | t1ms order => exact execT1ms_effects h
  | t10ms order => exact running_effects (tickGates_effects s _ order) h
  | t100ms order => exact running_effects (tickGates_effects s _ order) h
  | t1s order => exact running_effects (tickGates_effects s _ order) h
  | syncIn order => exact running_effects (foldl_effects (fun s g => edgeGate_effects s _ g) _ s) h
  | silenceExpiry i => exact execSilenceExpiry_effects h
  | intervalEnd g => exact execIntervalEnd_effects h
  | gateOutPulseEnd => cases h; exact Still.effects (.of_streams rfl rfl rfl rfl)
  | clearCompletion => exact execClearCompletion_effects h
  | wipeCompletion => exact execWipeCompletion_effects h
  | hardwareReset => cases h; exact Effect.effects (.hardwareReset s)
  | resetRelease a n => exact execResetRelease_effects h
  | unknownCommand => exact execUnknownCommand_effects h
  | identify => exact runCommand_effects identifyAct_effects h
  | echo => exact runCommand_effects echoAct_effects h
  | resetEngine => exact runCommand_effects_of_idle resetEngineAct_effects h
  | setStream => exact runCommand_effects setStreamAct_effects h
  | readStream => exact runCommand_effects readStreamAct_effects h
  | clearCounts => exact runCommand_effects clearCountsAct_effects h
  | startGen => exact runCommand_effects startGenAct_effects h
  | stopGen => exact runCommand_effects stopGenAct_effects h
  | setInject => exact runCommand_effects setInjectAct_effects h
  | injectOne => exact runCommand_effects injectOneAct_effects h
  | injectBurst => exact runCommand_effects injectBurstAct_effects h
  | startChk => exact runCommand_effects startChkAct_effects h
  | stopChk => exact runCommand_effects stopChkAct_effects h
  | restartChk => exact runCommand_effects restartChkAct_effects h
  | setLane => exact runCommand_effects setLaneAct_effects h
  | readLane => exact runCommand_effects readLaneAct_effects h
  | setWindow => exact runCommand_effects setWindowAct_effects h
  | loadWords => exact runCommand_effects loadWordsAct_effects h
  | readSegment => exact runCommand_effects readSegmentAct_effects h
  | clearSegment => exact runCommand_effects clearSegmentAct_effects h
  | wipeStore => exact runCommand_effects wipeStoreAct_effects h
  | definePattern => exact runCommand_effects definePatternAct_effects h
  | undefinePattern => exact runCommand_effects undefinePatternAct_effects h
  | freezePattern => exact runCommand_effects freezePatternAct_effects h
  | readPattern => exact runCommand_effects readPatternAct_effects h
  | setGate => exact runCommand_effects setGateAct_effects h
  | startGate => exact runCommand_effects startGateAct_effects h
  | stopGate => exact runCommand_effects stopGateAct_effects h
  | readGate => exact runCommand_effects readGateAct_effects h
  | fetchResults => exact runCommand_effects fetchResultsAct_effects h
  | releaseResults => exact runCommand_effects releaseResultsAct_effects h
  | setRing => exact runCommand_effects setRingAct_effects h
  | readRing => exact runCommand_effects readRingAct_effects h
  | readEvents => exact runCommand_effects readEventsAct_effects h
  | ackEvents => exact runCommand_effects ackEventsAct_effects h
  | setEventPolicy => exact runCommand_effects setEventPolicyAct_effects h

/-- A predicate that does not look at the queue of events is kept by every step when every effect keeps it. -/
theorem step_keeps_of_effects {P : State → Prop} (hpending : ∀ s q, P s → P { s with pending := q })
    (heffect : ∀ {s t}, Effect s t → P s → P t) (hs : P s) (h : step s = .next t) : P t :=
  step_keeps hpending (fun hexec => (exec_effects hexec).keeps heffect) hs h

end Sys2Proof.Machine
end

section
/-! SUPPORT. No queue passes its capacity (R46, R147, R165, R167, R168), through every effect. -/

namespace Sys2Proof.Machine

/-- Both holding buffers of a lane are within their capacity (R46). -/
def Lane.bounded (n : Lane) : Prop :=
  n.egressBuf.length ≤ Config.bufferCapacity ∧ n.ingressBuf.length ≤ Config.bufferCapacity

/-- The agent's queues are within their capacities, and a reply waits only at a full Outbound Queue (R165, R167, R168). -/
structure Agent.Bounded (a : Agent) : Prop where
  commands : a.commands.length ≤ Config.commandCapacity
  outbound : a.outbound.length ≤ Config.outboundCapacity
  notices : a.notices ≤ Config.noticeShare
  waiting : ∀ r, a.waiting = some r → r.notice = false ∧ a.outbound.length = Config.outboundCapacity

/-- The ring holds no more than its capacity and its appended count, and its mark is in range (R147). -/
structure Ring.Bounded (r : Ring) : Prop where
  capacity : r.records.length ≤ Config.ringCapacity
  appended : r.records.length ≤ r.appended.toNat
  markLow : 1 ≤ r.highWater
  markHigh : r.highWater ≤ Config.ringCapacity

theorem queueLaw_iff (s : State) : QueueLaw s ↔ (∀ l, (s.lane l).bounded) ∧ s.agent.Bounded ∧ s.ring.Bounded :=
  ⟨fun ⟨hlane, hcommands, houtbound, hnotices, hwaiting, hcapacity, happended, hlow, hhigh⟩ =>
      ⟨hlane, ⟨hcommands, houtbound, hnotices, hwaiting⟩, ⟨hcapacity, happended, hlow, hhigh⟩⟩,
    fun ⟨hlane, ⟨hcommands, houtbound, hnotices, hwaiting⟩, ⟨hcapacity, happended, hlow, hhigh⟩⟩ =>
      ⟨hlane, hcommands, houtbound, hnotices, hwaiting, hcapacity, happended, hlow, hhigh⟩⟩

theorem BufferChange.bounded {b b' : List Frame} (h : BufferChange b b') (hb : b.length ≤ Config.bufferCapacity) :
    b'.length ≤ Config.bufferCapacity := by
  cases h with
  | kept => exact hb
  | pushed _ f hplace => simpa using hplace
  | popped f => exact Nat.le_of_succ_le hb

theorem LaneChange.bounded {n n' : Lane} (h : LaneChange n n') (hn : n.bounded) : n'.bounded :=
  ⟨h.out.bounded hn.1, h.into.bounded hn.2⟩

/-- New modes keep the buffers, or empty the egress one (R51). -/
theorem Lane.bounded.withModes {n : Lane} (h : n.bounded) (eg : EgressMode) (ing : IngressMode) :
    (n.withModes eg ing).bounded := by
  unfold Lane.withModes
  split
  · exact ⟨Nat.zero_le _, h.2⟩
  · exact h

theorem Agent.notices_append (a : Agent) (o : OutFrame) :
    Agent.notices { a with outbound := a.outbound ++ [o] } = a.notices + if o.notice then 1 else 0 := by
  simp [Agent.notices, List.countP_append, List.countP_singleton]

theorem Agent.notices_tail_le {a : Agent} {o : OutFrame} {rest : List OutFrame} (h : a.outbound = o :: rest) :
    rest.countP (fun o => o.notice) ≤ a.notices := by
  rw [Agent.notices, h, List.countP_cons]
  exact Nat.le_add_right _ _

/-- The agent's queues stay within their capacities. A notice finds fewer than 6 frames queued; at 8 queued frames a
reply waits; and the place a sent frame leaves is the waiting reply's. -/
theorem AgentChange.bounded {a a' : Agent} (h : AgentChange a a') (ha : a.Bounded) : a'.Bounded := by
  obtain ⟨hcommands, houtbound, hnotices, hwaiting⟩ := ha
  have hshare : Config.noticeShare < Config.outboundCapacity := by decide
  cases h with
  | arrived c hplace => exact ⟨by simpa using hplace, houtbound, hnotices, hwaiting⟩
  | taken hhead =>
    refine ⟨?_, houtbound, hnotices, hwaiting⟩
    rw [hhead] at hcommands
    exact Nat.le_of_succ_le hcommands
  | noticed bytes hplace =>
    have hfew : a.notices ≤ a.outbound.length := List.countP_le_length
    refine ⟨hcommands, ?_, ?_, fun r hr => ?_⟩
    · simp only [List.length_append, List.length_singleton]
      omega
    · rw [Agent.notices_append, if_pos rfl]
      omega
    · have := (hwaiting r hr).2
      omega
  | replied bytes hplace =>
    refine ⟨hcommands, by simpa using hplace, ?_, fun r hr => ?_⟩
    · rw [Agent.notices_append]
      exact hnotices
    · have := (hwaiting r hr).2
      omega
  | waits bytes hfull =>
    refine ⟨hcommands, houtbound, hnotices, fun r hr => ?_⟩
    cases hr
    exact ⟨rfl, Nat.le_antisymm houtbound hfull⟩
  | entered hr hplace =>
    have := (hwaiting _ hr).2
    omega
  | @sent o rest ho hnone =>
    rw [ho, List.length_cons] at houtbound
    refine ⟨hcommands, Nat.le_of_succ_le houtbound, (Agent.notices_tail_le ho).trans hnotices, fun r hr => ?_⟩
    obtain hnone | hfull := hnone
    · rw [hnone] at hr
      cases hr
    · omega
  | @exchanged o r rest ho hr =>
    obtain ⟨hreply, hfull⟩ := hwaiting r hr
    rw [ho, List.length_cons] at hfull
    refine ⟨hcommands, ?_, ?_, fun _ hnone => nomatch hnone⟩
    · simp only [List.length_append, List.length_singleton]
      omega
    · rw [Agent.notices, List.countP_append, List.countP_singleton, hreply]
      exact (Agent.notices_tail_le ho).trans hnotices

/-- An engine reset drops the queued notices (R171). -/
theorem Agent.Bounded.engineReset {a : Agent} (h : a.Bounded) (hwaiting : a.waiting = none) :
    Agent.Bounded { a with outbound := a.outbound.filter (fun o => !o.notice) } where
  commands := h.commands
  outbound := (List.length_filter_le _ _).trans h.outbound
  notices := (List.Sublist.countP_le List.filter_sublist).trans h.notices
  waiting r hr := by
    rw [hwaiting] at hr
    cases hr

/-- An offer appends only what fits, and the appended count stops far above the capacity (R16, R148). -/
theorem RingChange.bounded {r r' : Ring} (h : RingChange r r') (hr : r.Bounded) : r'.Bounded := by
  obtain ⟨hcapacity, happended, hlow, hhigh⟩ := hr
  have hwidth : Config.ringCapacity ≤ 2 ^ 32 - 1 := by decide
  cases h with
  | offered batch =>
    refine ⟨?_, ?_, hlow, hhigh⟩
    · simp only [Ring.take, List.length_append, List.length_take]
      omega
    · simp only [Ring.take, List.length_append, List.length_take, satAdd_toNat]
      omega
  | released k =>
    have hfewer : (r.records.drop k).length ≤ r.records.length := by simp
    exact ⟨hfewer.trans hcapacity, hfewer.trans happended, hlow, hhigh⟩
  | marked m hlow' hhigh' => exact ⟨hcapacity, happended, hlow', hhigh'⟩

/-- What every lane satisfies, it satisfies after a change of one lane to one that does. -/
theorem forall_lane_setLane {Q : Lane → Prop} {s : State} {l : Fin 16} {n : Lane} (hn : Q n) (h : ∀ m, Q (s.lane m))
    (m : Fin 16) : Q ((s.setLane l n).lane m) := by
  rw [State.lane_setLane]
  split
  · exact hn
  · exact h m

theorem Effect.queueLaw {s t : State} (he : Effect s t) (h : QueueLaw s) : QueueLaw t := by
  rw [queueLaw_iff] at h ⊢
  obtain ⟨hlane, hagent, hring⟩ := h
  cases he with
  | still hs =>
    refine ⟨fun l => State.lane_congr hs.lanes l ▸ hlane l, ?_, hs.ring ▸ hring⟩
    obtain ⟨hcommands, houtbound, hnotices, hwaiting⟩ := hagent
    exact ⟨hs.commands ▸ hcommands, hs.outbound ▸ houtbound, by rw [Agent.notices, hs.outbound]; exact hnotices,
      by rw [hs.waiting, hs.outbound]; exact hwaiting⟩
  | generator _ => exact ⟨hlane, hagent, hring⟩
  | configured _ _ _ => exact ⟨hlane, hagent, hring⟩
  | lane hn => exact ⟨forall_lane_setLane (hn.bounded (hlane _)) hlane, hagent, hring⟩
  | modes l eg ing => exact ⟨forall_lane_setLane ((hlane l).withModes eg ing) hlane, hagent, hring⟩
  | agent ha => exact ⟨hlane, ha.bounded hagent, hring⟩
  | ring hr => exact ⟨hlane, hagent, hr.bounded hring⟩
  | engineReset hwaiting =>
    refine ⟨fun l => ?_, hagent.engineReset hwaiting, ((queueLaw_iff _).mp queueLaw_reset).2.2⟩
    rw [engineReset_lane]
    exact hlane l
  | hardwareReset => exact (queueLaw_iff _).mp queueLaw_reset

/-- Settles O50: every effect keeps the bounds of the lanes, of the agent's queues and of the ring. -/
theorem everyStepKeepsQueueBounds : Obligations.EveryStepKeepsQueueBounds := by
  unfold Obligations.EveryStepKeepsQueueBounds
  intro s t
  exact step_keeps_of_effects (fun _ _ h => h) Effect.queueLaw

end Sys2Proof.Machine
end

section
/-! SUPPORT. A generator's state fits its egress lane's mode, due and countdown fit its state, and a lane in TEST buffers no
client frame (R51, R86, R89, R90), through every effect. -/

namespace Sys2Proof.Machine

/-! ## One stream -/

/-- The law of a stream's generator speaks of its configuration and its pacing alone. -/
theorem Stream.genLawful_congr {r r' : Stream} {m : EgressMode} (hconfig : r'.config = r.config)
    (hpace : r'.gen.pace = r.gen.pace) : r'.genLawful m ↔ r.genLawful m := by
  simp only [Generator.pace, Prod.mk.injEq] at hpace
  obtain ⟨hstate, hcountdown, hdue⟩ := hpace
  simp only [Stream.genLawful, Generator.active, hconfig, hstate, hcountdown, hdue]

/-- An IDLE generator is lawful under every mode when it is not due. -/
theorem Stream.genLawful_of_idle {r : Stream} (hidle : r.gen.state = .idle) (hdue : r.gen.due = false)
    (hpacing : 1 ≤ r.config.pacing) (m : EgressMode) : r.genLawful m := by
  simp [Stream.genLawful, Generator.active, hidle, hdue, hpacing]

theorem GeneratorChange.genLawful {r : Stream} {m : EgressMode} {g : Generator} (hg : GeneratorChange r m g)
    (h : r.genLawful m) : Stream.genLawful { r with gen := g } m := by
  obtain ⟨hrunning, hheld, hdue, hactive, hpacing⟩ := h
  have hpace : ∀ {st c d}, g.pace = (st, c, d) → g.state = st ∧ g.countdown = c ∧ g.due = d := fun h => by
    simpa [Generator.pace] using h
  cases hg with
  | stepped hrun hleft hg =>
    obtain ⟨hstate, hcountdown, -⟩ := hpace hg
    have hcount := hactive (by simp [Generator.active, hrun])
    refine ⟨fun _ => hrunning hrun, fun hh => ?_, fun _ => hstate, fun _ => ?_, hpacing⟩
    · rw [hstate] at hh
      cases hh
    · rw [hcountdown]
      show 1 ≤ r.gen.countdown - 1 ∧ r.gen.countdown - 1 ≤ r.config.pacing
      omega
  | expired hrun hg =>
    obtain ⟨hstate, hcountdown, -⟩ := hpace hg
    refine ⟨fun _ => hrunning hrun, fun hh => ?_, fun _ => hstate, fun _ => ?_, hpacing⟩
    · rw [hstate] at hh
      cases hh
    · rw [hcountdown]
      exact ⟨hpacing, le_rfl⟩
  | built hg =>
    obtain ⟨hstate, hcountdown, hclear⟩ := hpace hg
    refine ⟨hstate ▸ hrunning, hstate ▸ hheld, fun hd => absurd hd (Bool.eq_false_iff.mp hclear), ?_, hpacing⟩
    rw [Generator.active, hstate, hcountdown]
    exact hactive
  | started hg =>
    obtain ⟨hstate, hcountdown, hclear⟩ := hpace hg
    refine ⟨fun hr hm => ?_, fun hh => ?_, fun hd => absurd hd (Bool.eq_false_iff.mp hclear), fun _ => ?_, hpacing⟩
    · rw [hstate, hm] at hr
      cases hr
    · rw [hstate] at hh
      cases m with
      | client => rfl
      | mixed => cases hh
      | test => cases hh
    · rw [hcountdown]
      exact ⟨hpacing, le_rfl⟩
  | stopped hg =>
    obtain ⟨hstate, -, hclear⟩ := hpace hg
    exact Stream.genLawful_of_idle (r := { r with gen := g }) hstate hclear hpacing m

/-- A change of its egress lane's mode holds a RUNNING generator or lets a HELD one run, as the new mode needs (R51). -/
theorem Stream.genLawful.atModeChange {r : Stream} {l : Fin 16} {before : EgressMode} (hl : r.config.egressLane = l)
    (h : r.genLawful before) (after : EgressMode) : (r.atModeChange l before after).genLawful after := by
  obtain ⟨hrunning, hheld, hdue, hactive, hpacing⟩ := h
  unfold Stream.atModeChange
  simp only [hl, bne_self_eq_false, Bool.false_eq_true, if_false, Bool.and_eq_true, bne_iff_ne, beq_iff_eq]
  split_ifs with hhold hrelease
  · obtain ⟨⟨-, hclient⟩, hrun⟩ := hhold
    exact ⟨fun hr => (nomatch hr), fun _ => hclient, fun hd => (nomatch hd),
      fun _ => hactive (by simp [Generator.active, hrun]), hpacing⟩
  · obtain ⟨⟨-, hother⟩, hh⟩ := hrelease
    exact ⟨fun _ => hother, fun hr => (nomatch hr), fun _ => rfl, fun _ => hactive (by simp [Generator.active, hh]),
      hpacing⟩
  · refine ⟨fun hr hclient => hhold ⟨⟨hrunning hr, hclient⟩, hr⟩, fun hh => ?_, hdue, hactive, hpacing⟩
    by_contra hother
    exact hrelease ⟨⟨hheld hh, hother⟩, hh⟩

/-- A stream of another egress lane stands at a mode change (R51). -/
theorem Stream.atModeChange_of_ne {r : Stream} {l : Fin 16} (h : r.config.egressLane ≠ l) (before after : EgressMode) :
    r.atModeChange l before after = r := if_pos (bne_iff_ne.mpr h)

@[simp] theorem Lane.withModes_egress (n : Lane) (eg : EgressMode) (ing : IngressMode) :
    (n.withModes eg ing).egress = eg := by
  unfold Lane.withModes
  split <;> rfl

/-- A lane put into TEST holds no client frame, and neither does one that stays in it (R51). -/
theorem Lane.withModes_empty {n : Lane} (h : n.egress = .test → n.egressBuf = []) (eg : EgressMode) (ing : IngressMode)
    (htest : (n.withModes eg ing).egress = .test) : (n.withModes eg ing).egressBuf = [] := by
  rw [Lane.withModes_egress] at htest
  unfold Lane.withModes
  split
  case isTrue => rfl
  case isFalse hstays =>
    simp only [htest, beq_self_eq_true, Bool.and_true, bne_iff_ne, not_not] at hstays
    exact h hstays

/-! ## The whole part -/

theorem generatorLaw_of_reset {s : State} (hstream : ∀ i, s.stream i = Stream.reset)
    (hlane : ∀ l, (s.lane l).egress = .client) : GeneratorLaw s := by
  refine ⟨fun i => ?_, fun l htest => ?_⟩
  · rw [hstream]
    exact Stream.genLawful_of_idle rfl rfl (by decide) _
  · rw [hlane] at htest
    cases htest

theorem Effect.generatorLaw {s t : State} (he : Effect s t) (h : GeneratorLaw s) : GeneratorLaw t := by
  obtain ⟨hgen, htest⟩ := h
  cases he with
  | still hs =>
    have hlane := fun l => State.lane_congr hs.lanes l
    refine ⟨fun i => ?_, fun l => hlane l ▸ htest l⟩
    rw [hs.config, hlane, Stream.genLawful_congr (hs.config i) (hs.pace i)]
    exact hgen i
  | generator hg =>
    exact ⟨forall_stream_setStream (Q := fun r => r.genLawful (s.lane r.config.egressLane).egress)
      (hg.genLawful (hgen _)) hgen, htest⟩
  | @configured i cfg hidle hpacing =>
    have hdue : (s.stream i).gen.due = false := by
      obtain ⟨-, -, hdue, -⟩ := hgen i
      refine Bool.eq_false_iff.mpr fun hd => ?_
      have hrun := hdue hd
      rw [hidle] at hrun
      cases hrun
    exact ⟨forall_stream_setStream (Q := fun r => r.genLawful (s.lane r.config.egressLane).egress)
      (Stream.genLawful_of_idle (r := { s.stream i with configured := true, config := cfg }) hidle hdue hpacing _) hgen,
      htest⟩
  | @lane l n hn =>
    have hmode : ∀ m, ((s.setLane l n).lane m).egress = (s.lane m).egress := fun m => by
      rw [State.lane_setLane]
      split
      case isTrue heq => rw [← heq, hn.egress]
      case isFalse => rfl
    refine ⟨fun i => hmode _ ▸ hgen i, forall_lane_setLane (Q := fun n => n.egress = .test → n.egressBuf = [])
      (fun ht => ?_) htest⟩
    rw [hn.egress] at ht
    exact hn.test ht (htest l ht)
  | modes l eg ing =>
    refine ⟨fun i => ?_, forall_lane_setLane (Q := fun n => n.egress = .test → n.egressBuf = [])
      (Lane.withModes_empty (htest l) eg ing) htest⟩
    rw [State.stream_congr (State.setLane_streams _ _ _), State.stream_mapStreams, Stream.atModeChange_config,
      State.lane_setLane]
    split
    case isTrue heq =>
      rw [Lane.withModes_egress]
      exact Stream.genLawful.atModeChange heq.symm (heq ▸ hgen i) eg
    case isFalse hne =>
      rw [Stream.atModeChange_of_ne (Ne.symm hne)]
      exact hgen i
  | agent _ => exact ⟨hgen, htest⟩
  | ring _ => exact ⟨hgen, htest⟩
  | engineReset _ => exact generatorLaw_of_reset (engineReset_stream s) fun l => by rw [engineReset_lane]; rfl
  | hardwareReset => exact generatorLaw_of_reset (hardwareReset_stream s) fun l => by rw [hardwareReset_lane]; rfl

/-- Settles O55: every effect keeps each generator lawful under its lane's mode, and no frame enters a lane in TEST. -/
theorem everyStepKeepsGeneratorLaw : Obligations.EveryStepKeepsGeneratorLaw := by
  unfold Obligations.EveryStepKeepsGeneratorLaw
  intro s t
  exact step_keeps_of_effects (fun _ _ h => h) Effect.generatorLaw

end Sys2Proof.Machine
end

section
/-! SUPPORT. In TAP the delivery and the forwarding touch different state (R45). -/

namespace Sys2Proof.Machine

/-- Two states with the same streams, list and policies: all that a raise of a stream kind reads or writes, its notice
apart. -/
structure SameRaises (s t : State) : Prop where
  streams : t.streams = s.streams
  listed : t.events.listed = s.events.listed
  policies : t.events.policies = s.events.policies

theorem State.policy_congr {s t : State} (h : t.events.policies = s.events.policies) (k : Kind) :
    t.policy k = s.policy k := by
  rw [State.policy, State.policy, h]

theorem SameRaises.notify {s t : State} (h : SameRaises s t) (code : Nat) (scope : BitVec 16) (d1 d2 : Word) :
    SameRaises (s.notify code scope d1 d2) (t.notify code scope d1 d2) where
  streams := by simpa using h.streams
  listed := by simpa using h.listed
  policies := by simpa using h.policies

theorem SameRaises.raiseStream {s t : State} (h : SameRaises s t) (i : Fin 256) (k : StreamKind) :
    SameRaises (s.raiseStream i k) (t.raiseStream i k) := by
  have hset : ∀ listed, SameRaises
      ((s.setStream i { s.stream i with events := (s.stream i).events.insert k.code }).setEvents
        { s.events with listed := listed })
      ((t.setStream i { s.stream i with events := (s.stream i).events.insert k.code }).setEvents
        { t.events with listed := listed }) :=
    fun listed => ⟨by simp [h.streams], rfl, h.policies⟩
  simp only [State.raiseStream_eq, State.policy_congr h.policies, State.stream_congr h.streams, h.listed]
  split
  · exact h
  · split
    · exact (hset _).notify _ _ _ _
    · exact hset _

theorem SameRaises.raiseAll {s t : State} (h : SameRaises s t) (i : Fin 256) (ks : List StreamKind) :
    SameRaises (s.raiseAll i ks) (t.raiseAll i ks) := by
  induction ks generalizing s t with
  | nil => exact h
  | cons k ks ih => exact ih (h.raiseStream i k)

/-- A delivery reads streams, store and gates, and raises (R109). -/
theorem SameRaises.deliver {s t : State} (h : SameRaises s t) (hstore : t.store = s.store) (hgates : t.gates = s.gates)
    (i : Fin 256) (f : Frame) : SameRaises (deliver s i f) (deliver t i f) := by
  have hopen : ∀ r, t.gateOpenFor r = s.gateOpenFor r := fun r => by
    rw [State.gateOpenFor, State.gateOpenFor, State.gate_congr hgates]
  simp only [Machine.deliver, State.stream_congr h.streams, hstore, hopen]
  refine SameRaises.raiseAll (s := s.setChk i _) (t := t.setChk i _) ⟨?_, h.listed, h.policies⟩ i _
  rw [State.setChk_streams, State.setChk_streams, h.streams, State.stream_congr h.streams]

@[simp] theorem deliver_lanes (s : State) (i : Fin 256) (f : Frame) : (deliver s i f).lanes = s.lanes :=
  State.raiseAll_lanes _ _ _

theorem raiseAll_device_policies (s : State) (i : Fin 256) (ks : List StreamKind) :
    (s.raiseAll i ks).events.device = s.events.device ∧ (s.raiseAll i ks).events.policies = s.events.policies :=
  State.raiseAll_induction (P := fun t => t.events.device = s.events.device ∧ t.events.policies = s.events.policies)
    (fun _ _ h => by simpa using h) ks ⟨rfl, rfl⟩

/-- A delivery leaves the device set and the policies (R158). -/
theorem deliver_device_policies (s : State) (i : Fin 256) (f : Frame) :
    (deliver s i f).events.device = s.events.device ∧ (deliver s i f).events.policies = s.events.policies :=
  raiseAll_device_policies _ _ _

/-- What a forwarding keeps: the buffered frame and the counted one reach the lane alone, and a drop raises BUFFER_DROP
(R45). -/
theorem forward_induction {P : State → Prop} {s : State} {l : Fin 16} (hlane : ∀ n, P (s.setLane l n))
    (hraise : ∀ t k d1 d2, P t → P (t.raiseDevice k d1 d2)) (f : Frame) : P (forward s l f) := by
  unfold forward
  simp only []
  split
  · exact hlane _
  · exact hraise _ _ _ _ (hlane _)

@[simp] theorem forward_store (s : State) (l : Fin 16) (f : Frame) : (forward s l f).store = s.store :=
  forward_induction (P := fun t => t.store = s.store) (fun _ => rfl) (fun _ _ _ _ h => by simpa using h) f

@[simp] theorem forward_gates (s : State) (l : Fin 16) (f : Frame) : (forward s l f).gates = s.gates :=
  forward_induction (P := fun t => t.gates = s.gates) (fun _ => rfl) (fun _ _ _ _ h => by simpa using h) f

theorem forward_sameRaises (s : State) (l : Fin 16) (f : Frame) : SameRaises s (forward s l f) :=
  forward_induction (P := SameRaises s) (fun _ => ⟨rfl, rfl, rfl⟩)
    (fun _ _ _ _ h => ⟨by simpa using h.streams, by simpa using h.listed, by simpa using h.policies⟩) f

/-- A raise of a device kind reads the device set and the policies alone, its notice apart (R158). -/
theorem raiseDevice_device_congr {s t : State} (hdevice : t.events.device = s.events.device)
    (hpolicies : t.events.policies = s.events.policies) (k : DeviceKind) (d1 d2 : Word) :
    (t.raiseDevice k d1 d2).events.device = (s.raiseDevice k d1 d2).events.device := by
  have hpolicy := State.policy_congr hpolicies (.device k)
  simp only [State.raiseDevice_eq, hpolicy, hdevice]
  split
  · exact hdevice
  · split
    · simp
    · rfl

/-- A forwarding reads the lane, the device set and the policies, and its results there follow from them (R45). -/
theorem forward_congr {s t : State} (hlanes : t.lanes = s.lanes) (hdevice : t.events.device = s.events.device)
    (hpolicies : t.events.policies = s.events.policies) (l : Fin 16) (f : Frame) :
    (forward t l f).lanes = (forward s l f).lanes
      ∧ (forward t l f).events.device = (forward s l f).events.device := by
  unfold forward
  simp only [State.lane_congr hlanes]
  split
  · exact ⟨by simp [hlanes], hdevice⟩
  · refine ⟨by simp [hlanes], raiseDevice_device_congr ?_ ?_ _ _ _⟩
    · exact hdevice
    · exact hpolicies

/-- Settles O11: forwarding changes nothing a delivery reads, and a delivery nothing a forwarding reads. -/
theorem tapOrderIsIndependent : Obligations.TapOrderIsIndependent := by
  unfold Obligations.TapOrderIsIndependent
  intro s l i f
  have hdeliver := (forward_sameRaises s l f).deliver (forward_store s l f) (forward_gates s l f) i f
  have hafter := forward_sameRaises (deliver s i f) l f
  obtain ⟨hdevice, hpolicies⟩ := deliver_device_policies s i f
  obtain ⟨hlanes, hpending⟩ := forward_congr (deliver_lanes s i f) hdevice hpolicies l f
  refine ⟨hdeliver.streams.trans hafter.streams.symm, ?_, ?_, hdeliver.listed.trans hafter.listed.symm⟩
  · rw [deliver_lanes, hlanes]
  · rw [(deliver_device_policies _ i f).1, hpending]

end Sys2Proof.Machine
end

section
/-! SUPPORT. The part under a hardware reset and at its release (R38, R172), and the events of a lane's ports, which find it
present and running or change nothing (R42 to R48, R165, R167). -/

namespace Sys2Proof.Machine

/-- Settles O4: the reset and the release by their definitions, every other event by the reset in force. -/
theorem hardwareResetAndRelease : Obligations.HardwareResetAndRelease := by
  unfold Obligations.HardwareResetAndRelease
  refine ⟨fun _ => rfl, fun s a n h => if_pos h, fun s a n h => if_neg (Bool.eq_false_iff.mp h),
    fun c s h hreset hrelease hpulse => exec_of_inReset h hreset hrelease hpulse⟩

variable {s : State} {l : Fin 16} {f : Frame}

theorem State.not_takes (h : s.inReset = true ∨ s.present l = false) : ¬ s.takes l = true := by
  obtain h | h := h <;> simp [State.takes, h]

theorem State.present_iff : s.present l = true ↔ l.val < 4 * (s.lanesStrap.toNat + 1) := decide_eq_true_iff

/-! ## Client-in arrivals -/

theorem courseOf_own (hl : l = 0) (hv : classify s.window f = .management true) (ha : f.address = s.addr)
    (hown : s.addr ≠ 63) : courseOf s l f = .own := by
  have hone : f.address ≠ 63 := ha ▸ hown
  simp only [courseOf, hl, hv, decide_true, beq_self_eq_true, Bool.and_self, if_true, if_neg hone, if_pos ha]

theorem courseOf_broadcast (hl : l = 0) (hv : classify s.window f = .management true) (ha : f.address = 63) :
    courseOf s l f = .broadcast := by
  simp [courseOf, hl, hv, ha]

theorem courseOf_client
    (h : l ≠ 0 ∨ classify s.window f ≠ .management true ∨ (f.address ≠ s.addr ∧ f.address ≠ 63)) :
    courseOf s l f = .client := by
  obtain hl | hv | ⟨hown, hall⟩ := h
  · simp [courseOf, hl]
  · simp [courseOf, hv]
  · simp only [courseOf, if_neg hall, if_neg hown, ite_self]

theorem exec_clientInArrival (ht : s.takes l = true) :
    exec (.clientInArrival l f) s =
      match courseOf s l f with
      | .own => .next (takeControl s false f)
      | .broadcast => .next (takeClient (takeControl s true f) l f)
      | .client => .next (takeClient s l f) := if_pos ht

/-- Settles O9: a frame's course, and what the agent and the lane do with it. -/
theorem clientInArrival : Obligations.ClientInArrival := by
  unfold Obligations.ClientInArrival
  refine ⟨fun s l => State.present_iff, fun s l f => ⟨fun h => ?_, fun hr hp => ?_⟩⟩
  · exact if_neg (State.not_takes h)
  · rw [exec_clientInArrival (State.takes_iff.mpr ⟨hr, hp⟩)]
    refine ⟨fun hl hv ha hown => ?_, fun hl hv ha => ?_, fun h => ?_⟩
    · rw [courseOf_own hl hv ha hown]
      rfl
    · rw [courseOf_broadcast hl hv ha]
      rfl
    · rw [courseOf_client h]
      rfl

/-! ## Line-in arrivals -/

theorem deliverable_iff {i : Fin 256} :
    deliverable s l i = true ↔
      (s.lane l).ingress ≠ .forward ∧ (s.stream i).chk.sync ≠ .off ∧ (s.stream i).config.ingressLane = l := by
  simp [deliverable, Checker.active, and_assoc]

/-- A decoded frame that is not deliverable is counted, though not in FORWARD (R44). -/
theorem countVerdict_of_stray {i : Fin 256} (h : deliverable s l i = false) :
    countVerdict s l (.testDecoded i) =
      if (s.lane l).ingress = .forward then s else s.countLane l (fun c => { c with stray := satAdd c.stray 1 }) := by
  simp [countVerdict, h]

theorem countVerdict_of_deliverable {i : Fin 256} (h : deliverable s l i = true) :
    countVerdict s l (.testDecoded i) = s.countLane l (fun c => { c with delivered := satAdd c.delivered 1 }) := by
  simp [countVerdict, h, (deliverable_iff.mp h).1]

/-- A frame that is not for a checker of the part is counted by its verdict and forwarded (R44). -/
theorem exec_lineInArrival_forwarded (ht : s.takes l = true) {v : Verdict} (hv : classify s.window f = v)
    (h : ∀ i, v = .testDecoded i → deliverable s l i = false) (first : Bool) :
    exec (.lineInArrival l f first) s = .next (forward (countVerdict s l v) l f) := by
  simp only [exec, execLineInArrival, if_pos ht, hv]
  cases v with
  | testDecoded i => simp [h i rfl]
  | _ => rfl

/-- A deliverable frame is counted and delivered, and in TAP forwarded too, in the order the event names (R44, R45). -/
theorem exec_lineInArrival_delivered (ht : s.takes l = true) {i : Fin 256} (hv : classify s.window f = .testDecoded i)
    (h : deliverable s l i = true) (first : Bool) :
    exec (.lineInArrival l f first) s =
      if (s.lane l).ingress = .tap then
        if first then .next (deliver (forward (countVerdict s l (.testDecoded i)) l f) i f)
        else .next (forward (deliver (countVerdict s l (.testDecoded i)) i f) l f)
      else .next (deliver (countVerdict s l (.testDecoded i)) i f) := by
  simp only [exec, execLineInArrival, if_pos ht, hv, h, if_true]

/-- Settles O10: a delivery by its definition, then the verdicts one by one. -/
theorem lineInArrival : Obligations.LineInArrival := by
  unfold Obligations.LineInArrival
  refine ⟨fun s i f => ?_, fun s l f first => ⟨fun h => ?_, fun hr hp => ?_⟩⟩
  · simp only [deliver, State.gateOpenFor_eq]
    rfl
  · exact if_neg (State.not_takes h)
  · have ht := State.takes_iff.mpr ⟨hr, hp⟩
    have hother := fun v (hv : classify s.window f = v) h => exec_lineInArrival_forwarded ht hv h first
    refine ⟨fun hv => ?_, fun b hv => ?_, fun hv => ?_, fun hv => ?_, fun i hv hnot => ?_, fun i hv hok hcheck => ?_,
      fun i hv hok htap => ?_⟩
    · exact hother _ hv fun _ h => nomatch h
    · exact hother _ hv fun _ h => nomatch h
    · exact hother _ hv fun _ h => nomatch h
    · exact hother _ hv fun _ h => nomatch h
    · have hstray : deliverable s l i = false := Bool.eq_false_iff.mpr (mt deliverable_iff.mp hnot)
      have hexec := hother _ hv fun j hj => by cases hj; exact hstray
      rw [countVerdict_of_stray hstray] at hexec
      exact hexec
    · have hdeliverable := deliverable_iff.mpr hok
      rw [exec_lineInArrival_delivered ht hv hdeliverable, countVerdict_of_deliverable hdeliverable, hcheck]
      rfl
    · have hdeliverable := deliverable_iff.mpr hok
      rw [exec_lineInArrival_delivered ht hv hdeliverable, countVerdict_of_deliverable hdeliverable, if_pos htap]
      cases first <;> rfl

/-! ## Line-out opportunities -/

@[simp] theorem paceStream_lanes (s : State) (i : Fin 256) : (paceStream s i).lanes = s.lanes := by
  unfold paceStream pacingReload
  simp only []
  split_ifs
  · exact State.raiseStream_lanes _ _ _
  · rfl
  · rfl

/-- Pacing leaves every lane (R89). -/
theorem paceLane_lanes (s : State) (l : Fin 16) : (paceLane s l).lanes = s.lanes :=
  List.foldlRecOn (motive := fun t => t.lanes = s.lanes) _ paceStream rfl
    fun t h i _ => (paceStream_lanes t i).trans h

theorem exec_lineOutOpportunity_client (ht : s.takes l = true) (hm : (s.lane l).egress = .client) :
    exec (.lineOutOpportunity l) s = .next (sendClient s l) := by
  simp [exec, execLineOutOpportunity, ht, hm]

theorem exec_lineOutOpportunity_paced (ht : s.takes l = true) (hm : (s.lane l).egress ≠ .client) :
    exec (.lineOutOpportunity l) s = .next (serveLineOut (paceLane s l) l) := by
  simp [exec, execLineOutOpportunity, ht, hm]

theorem serveLineOut_of_some {i : Fin 256} (h : arbiterChoice s l = some i) : serveLineOut s l = sendTest s l i := by
  rw [serveLineOut, h]

theorem serveLineOut_of_none (h : arbiterChoice s l = none) : serveLineOut s l = sendClient s l := by
  rw [serveLineOut, h]

/-- In TEST no client frame is sent (R47). -/
theorem sendClient_of_test (h : (s.lane l).egress = .test) :
    sendClient s l = s.setLane l { s.lane l with lineOut := none } := by
  unfold sendClient
  simp only [h, if_true]
  split <;> rfl

/-- In CLIENT and MIXED the buffer's head is sent, if there is one (R47). -/
theorem sendClient_of_cons {rest : List Frame} (h : (s.lane l).egress ≠ .test) (hbuf : (s.lane l).egressBuf = f :: rest) :
    sendClient s l =
      s.setLane l
        { s.lane l with
          egressBuf := rest
          counters := { (s.lane l).counters with passed := satAdd (s.lane l).counters.passed 1 }
          lineOut := some f } := by
  simp [sendClient, h, hbuf]

theorem sendClient_of_nil (hbuf : (s.lane l).egressBuf = []) :
    sendClient s l = s.setLane l { s.lane l with lineOut := none } := by
  simp [sendClient, hbuf]

/-- Settles O12: CLIENT, then by the arbiter's choice after pacing, which leaves the lane's mode. -/
theorem lineOutOpportunity : Obligations.LineOutOpportunity := by
  unfold Obligations.LineOutOpportunity
  intro s l
  refine ⟨fun h => ?_, fun hr hp => ⟨fun hm => ?_, fun hm => ?_⟩⟩
  · exact if_neg (State.not_takes h)
  · have hmode : (s.lane l).egress ≠ .test := by rw [hm]; decide
    rw [exec_lineOutOpportunity_client (State.takes_iff.mpr ⟨hr, hp⟩) hm]
    dsimp only
    split
    case h_1 hbuf => rw [sendClient_of_cons hmode hbuf]
    case h_2 hbuf => rw [sendClient_of_nil hbuf]
  · have hlane : (paceLane s l).lane l = s.lane l := State.lane_congr (paceLane_lanes s l) l
    rw [exec_lineOutOpportunity_paced (State.takes_iff.mpr ⟨hr, hp⟩) hm]
    refine ⟨fun i hi => ?_, fun hnone hmixed => ?_, fun hnone htest => ?_⟩
    · rw [serveLineOut_of_some hi]
      rfl
    · have hmode : ((paceLane s l).lane l).egress ≠ .test := by rw [hlane, hmixed]; decide
      rw [serveLineOut_of_none hnone]
      dsimp only
      split
      case h_1 hbuf => rw [sendClient_of_cons hmode hbuf]
      case h_2 hbuf => rw [sendClient_of_nil hbuf]
    · rw [serveLineOut_of_none hnone, sendClient_of_test (by rw [hlane, htest])]

/-! ## Client-out opportunities -/

theorem exec_clientOutOpportunity_outbound {o : OutFrame} {rest : List OutFrame} (ht : s.takes 0 = true)
    (ho : s.agent.outbound = o :: rest) : exec (.clientOutOpportunity 0) s = .next (sendOutbound s o rest) := by
  simp [exec, execClientOutOpportunity, ht, ho]

/-- Another lane, or lane 0 with nothing of the agent's to send, sends a forwarded frame (R48). -/
theorem exec_clientOutOpportunity_forwarded (ht : s.takes l = true) (h : l ≠ 0 ∨ s.agent.outbound = []) :
    exec (.clientOutOpportunity l) s = .next (sendForwarded s l) := by
  simp only [exec, execClientOutOpportunity, ht, if_true]
  split
  case h_1 o rest ho => exact if_neg (h.resolve_right fun hnil => by simp [hnil] at ho)
  case h_2 => rfl

theorem sendForwarded_of_cons {rest : List Frame} (h : (s.lane l).ingressBuf = f :: rest) :
    sendForwarded s l =
      s.setLane l
        { s.lane l with
          ingressBuf := rest
          counters := { (s.lane l).counters with forwarded := satAdd (s.lane l).counters.forwarded 1 }
          clientOut := some f } := by
  simp [sendForwarded, h]

theorem sendForwarded_of_nil (h : (s.lane l).ingressBuf = []) :
    sendForwarded s l = s.setLane l { s.lane l with clientOut := none } := by
  simp [sendForwarded, h]

theorem enterWaiting_of_place {r : OutFrame} (hr : s.agent.waiting = some r)
    (hplace : s.agent.outbound.length < Config.outboundCapacity) :
    enterWaiting s = s.setAgent { s.agent with outbound := s.agent.outbound ++ [r], waiting := none } := by
  simp [enterWaiting, hr, hplace]

/-- Settles O16: the agent's frame first on lane 0, else a forwarded one; the waiting reply by the place there is. -/
theorem clientOutOpportunity : Obligations.ClientOutOpportunity := by
  unfold Obligations.ClientOutOpportunity
  intro s l
  refine ⟨fun h => ?_, fun hr hp => ⟨fun o rest hl ho => ?_, fun h => ⟨fun f rest hbuf => ?_, fun hbuf => ?_⟩⟩,
    fun r hr hw hplace => ?_, fun h => ?_⟩
  · exact if_neg (State.not_takes h)
  · subst hl
    rw [exec_clientOutOpportunity_outbound (State.takes_iff.mpr ⟨hr, hp⟩) ho, sendOutbound_eq]
    rfl
  · rw [exec_clientOutOpportunity_forwarded (State.takes_iff.mpr ⟨hr, hp⟩) h, sendForwarded_of_cons hbuf]
  · rw [exec_clientOutOpportunity_forwarded (State.takes_iff.mpr ⟨hr, hp⟩) h, sendForwarded_of_nil hbuf]
  · rw [← enterWaiting_of_place hw hplace]
    exact if_neg (Bool.eq_false_iff.mp hr)
  · have hstays : enterWaiting s = s := by
      obtain ⟨r, hr, hplace, -⟩ | ⟨-, hstays⟩ := enterWaiting_cases s
      · exact absurd h (by simp [hr, hplace])
      · exact hstays
    show (if s.inReset then .next s else .next (enterWaiting s) : Result) = .next s
    rw [hstays, ite_self]

end Sys2Proof.Machine
end

section
/-! SUPPORT. SET_LANE (R51) and READ_LANE (R53). -/

namespace Sys2Proof.Machine

variable {s : State} {f : ControlFrame} {rest : List ControlFrame}

theorem setLaneAct_of_length {ws : List Word} (h : ws.length ≠ 3) (s : State) : setLaneAct ws s = badLength s := by
  unfold setLaneAct
  split
  · exact absurd rfl h
  · rfl

theorem readLaneAct_of_length {ws : List Word} (h : ws.length ≠ 2) (s : State) : readLaneAct ws s = badLength s := by
  unfold readLaneAct
  split
  · exact absurd rfl h
  · rfl

/-- A mode code in range, as R40 lists them. -/
theorem egressModeOf_eq (w : Word) : egressModeOf w = if w = 0 then .client else if w = 1 then .mixed else .test := by
  have hzero : w = 0 ↔ w.toNat = 0 := BitVec.toNat_inj.symm
  have hone : w = 1 ↔ w.toNat = 1 := BitVec.toNat_inj.symm
  simp only [egressModeOf, hzero, hone]
  split <;> simp_all

/-- A mode code in range, as R41 lists them. -/
theorem ingressModeOf_eq (w : Word) : ingressModeOf w = if w = 0 then .forward else if w = 1 then .check else .tap := by
  have hzero : w = 0 ↔ w.toNat = 0 := BitVec.toNat_inj.symm
  have hone : w = 1 ↔ w.toNat = 1 := BitVec.toNat_inj.symm
  simp only [ingressModeOf, hzero, hone]
  split <;> simp_all

/-- What a change of mode does to a generator of the lane: held when the lane turns to CLIENT, let run when it leaves it
(R51). -/
theorem Stream.atModeChange_eq (r : Stream) (l : Fin 16) (before after : EgressMode) :
    r.atModeChange l before after =
      if r.config.egressLane = l ∧ before ≠ .client ∧ after = .client ∧ r.gen.state = .running then
        { r with gen := { r.gen with state := .held, due := false } }
      else if r.config.egressLane = l ∧ before = .client ∧ after ≠ .client ∧ r.gen.state = .held then
        { r with gen := { r.gen with state := .running } }
      else r := by
  by_cases hl : r.config.egressLane = l
  · simp [Stream.atModeChange, hl, and_assoc]
  · simp [Stream.atModeChange, hl]

theorem Lane.withModes_eq (n : Lane) (eg : EgressMode) (ing : IngressMode) :
    n.withModes eg ing =
      if n.egress ≠ .test ∧ eg = .test then
        { n with
          egress := eg
          ingress := ing
          egressBuf := []
          counters := { n.counters with displaced := satAdd n.counters.displaced n.egressBuf.length } }
      else { n with egress := eg, ingress := ing } := by
  simp [Lane.withModes]

/-- The checks of a lane argument come first (R51). -/
theorem finish_laneChecks (w : Word) (cs : List (Bool × Status)) (k : Answer × State) :
    finish f (checked (laneChecks (s.dequeue rest) w ++ cs) (s.dequeue rest) k) =
      if 15 < w.toNat then s.refuses f rest .outOfRange
      else if s.present (index 16 w) = false then s.refuses f rest .noLane
      else finish f (checked cs (s.dequeue rest) k) := by
  simp only [laneChecks, List.cons_append, List.nil_append, finish_checked_cons, State.dequeue_present, inRange_iff]
  exact ite_pass_eq_ite_refuse (by omega) fun _ => ite_pass_eq_ite_refuse (by simp) fun _ => rfl

/-- The mode codes of SET_LANE are in range together, or the command is refused (R51). -/
theorem finish_modeChecks (weg wing : Word) (k : Answer × State) :
    finish f (checked [(inRange weg 0 2, .outOfRange), (inRange wing 0 2, .outOfRange)] (s.dequeue rest) k) =
      if 2 < weg.toNat ∨ 2 < wing.toNat then s.refuses f rest .outOfRange else finish f k := by
  simp only [finish_checked_cons, finish_checked_nil, inRange_iff, ← ite_and]
  exact ite_pass_eq_ite_refuse (by omega) fun _ => rfl

/-- R40's codes as words. -/
theorem Word.ofNat_egressCode (m : EgressMode) :
    Word.ofNat m.code = match m with | .client => 0 | .mixed => 1 | .test => 2 := by
  cases m <;> rfl

/-- R41's codes as words. -/
theorem Word.ofNat_ingressCode (m : IngressMode) :
    Word.ofNat m.code = match m with | .forward => 0 | .check => 1 | .tap => 2 := by
  cases m <;> rfl

/-- Settles O40, by the checks of each command in order and by what R51 and R53 say of an accepted one. -/
theorem laneCommands : Obligations.LaneCommands := by
  unfold Obligations.LaneCommands
  refine ⟨fun s f rest h => ⟨fun w weg wing hargs => ?_, fun hlen => ?_⟩,
    fun s f rest h => ⟨fun w clear hargs => ?_, fun hlen => ?_⟩⟩
  · have hexec : exec .setLane s = .next (finish f (setLaneAct [w, weg, wing] (s.dequeue rest))) :=
      hargs ▸ h.exec_eq (row := .setLane) rfl setLaneAct
    rw [hexec, setLaneAct, finish_laneChecks, finish_modeChecks, finish_mk, egressModeOf_eq, ingressModeOf_eq,
      Lane.withModes_eq]
    simp only [Stream.atModeChange_eq]
    rfl
  · have hexec : exec .setLane s = .next (finish f (setLaneAct f.args (s.dequeue rest))) :=
      h.exec_eq (row := .setLane) rfl setLaneAct
    rw [hexec, setLaneAct_of_length hlen, finish_badLength]
  · have hexec : exec .readLane s = .next (finish f (readLaneAct [w, clear] (s.dequeue rest))) :=
      hargs ▸ h.exec_eq (row := .readLane) rfl readLaneAct
    rw [hexec, readLaneAct, finish_laneChecks]
    refine congrArg _ (if_congr Iff.rfl rfl (if_congr Iff.rfl rfl ?_))
    simp only [finish_checked_cons, finish_checked_nil, finish_mk, inRange_iff, laneWords, Word.ofNat_egressCode,
      Word.ofNat_ingressCode]
    exact ite_pass_eq_ite_refuse (by omega) fun _ => rfl
  · have hexec : exec .readLane s = .next (finish f (readLaneAct f.args (s.dequeue rest))) :=
      h.exec_eq (row := .readLane) rfl readLaneAct
    rw [hexec, readLaneAct_of_length hlen, finish_badLength]

end Sys2Proof.Machine
end

section
/-! SUPPORT. What leaves the Pattern Store alone: raises, deliveries, ticks, gates, generators and lanes. -/

namespace Sys2Proof.Machine

variable (s : State)

/-- A fold of what leaves the store alone leaves it alone. -/
theorem foldl_store {α : Type} {f : State → α → State} (h : ∀ s a, (f s a).store = s.store) (l : List α) :
    (l.foldl f s).store = s.store := by
  induction l generalizing s with
  | nil => rfl
  | cons a l ih => exact (ih (f s a)).trans (h s a)

/-! ## The checkers -/

@[simp] theorem deliver_store (i : Fin 256) (f : Frame) : (deliver s i f).store = s.store :=
  State.raiseAll_store _ _ _

@[simp] theorem expireSilence_store (i : Fin 256) : (expireSilence s i).store = s.store := by
  unfold expireSilence
  simp only []
  split
  · rfl
  · exact State.raiseStream_store _ _ _

@[simp] theorem tickChecker_store (i : Fin 256) : (tickChecker s i).store = s.store := by
  unfold tickChecker
  simp only []
  split_ifs
  · exact expireSilence_store s i
  · rfl
  · rfl

@[simp] theorem restartChecker_store (i : Fin 256) : (restartChecker s i).store = s.store := by
  unfold restartChecker
  simp only []
  split
  · exact State.raiseStream_store _ _ _
  · rfl

/-! ## Gates and ticks -/

@[simp] theorem classifyMember_store (i : Fin 256) : (classifyMember s i).store = s.store := by
  unfold classifyMember
  simp only []
  split
  · exact State.raiseStream_store _ _ _
  · rfl

@[simp] theorem classifyMembers_store (g : Fin 4) : (classifyMembers s g).store = s.store :=
  foldl_store s classifyMember_store _

@[simp] theorem closeGate_store (g : Fin 4) (stop : Bool) : (closeGate g stop s).store = s.store := by
  unfold closeGate
  split <;> rfl

theorem countEventWith_store {atEnd : State → State} (hend : ∀ s, (atEnd s).store = s.store) (g : Fin 4) :
    (countEventWith atEnd g s).store = s.store := by
  unfold countEventWith
  simp only []
  split
  case h_1 => rfl
  case h_2 => split <;> rfl
  case h_3 =>
    split
    · rw [hend, classifyMembers_store, State.setGate_store]
    · rw [classifyMembers_store, State.setGate_store]

@[simp] theorem feedPartner_store (g : Fin 4) (base : Nat) : (feedPartner g base s).store = s.store := by
  unfold feedPartner
  split
  · exact countEventWith_store s (fun s => by rw [endAlone, closeGate_store, endInterval_store]) _
  · rfl

@[simp] theorem intervalEnd_store (g : Fin 4) (stop : Bool) (base : Nat) :
    (intervalEnd g stop base s).store = s.store := by
  rw [intervalEnd, closeGate_store, feedPartner_store, endInterval_store]

@[simp] theorem countEvent_store (base : Nat) (g : Fin 4) : (countEvent base g s).store = s.store :=
  countEventWith_store s (fun s => intervalEnd_store s _ _ _) g

@[simp] theorem tickGate_store (source : GateSource) (base : Nat) (g : Fin 4) :
    (tickGate source base s g).store = s.store := by
  unfold tickGate
  split
  · exact countEvent_store s _ _
  · rfl

@[simp] theorem tickGates_store (source : GateSource) (order : List (Fin 4)) :
    (tickGates source order s).store = s.store :=
  foldl_store s (fun s g => tickGate_store s _ _ g) _

@[simp] theorem tickSite_store (base : Nat) (x : TickSite) : (tickSite base s x).store = s.store := by
  cases x with
  | checker i => exact tickChecker_store s i
  | gate g => exact tickGate_store s _ _ g

@[simp] theorem edgeGate_store (base : Nat) (g : Fin 4) : (edgeGate base s g).store = s.store := by
  unfold edgeGate
  simp only []
  split_ifs
  · rfl
  · exact countEvent_store s _ _
  · rfl

@[simp] theorem stopGate_store (g : Fin 4) : (stopGate s g).store = s.store := by
  unfold stopGate
  split
  · rfl
  · rfl
  · exact intervalEnd_store s _ _ _

/-! ## Generators and lanes -/

@[simp] theorem paceStream_store (i : Fin 256) : (paceStream s i).store = s.store := by
  unfold paceStream pacingReload
  simp only []
  split_ifs
  · exact State.raiseStream_store _ _ _
  · rfl
  · rfl

@[simp] theorem paceLane_store (l : Fin 16) : (paceLane s l).store = s.store := foldl_store s paceStream_store _

@[simp] theorem takeControl_store (broadcast : Bool) (f : Frame) : (takeControl s broadcast f).store = s.store := by
  unfold takeControl
  split
  · rfl
  · exact State.raiseDevice_store _ _ _ _

@[simp] theorem takeClient_store (l : Fin 16) (f : Frame) : (takeClient s l f).store = s.store := by
  unfold takeClient
  simp only []
  split_ifs
  · rfl
  · rfl
  · exact State.raiseDevice_store _ _ _ _

@[simp] theorem countVerdict_store (l : Fin 16) (v : Verdict) : (countVerdict s l v).store = s.store := by
  cases v with
  | notProbe => rfl
  | management => rfl
  | headerError => rfl
  | testForeign =>
    unfold countVerdict
    simp only []
    split <;> rfl
  | testDecoded i =>
    unfold countVerdict
    simp only []
    split_ifs <;> rfl

@[simp] theorem sendClient_store (l : Fin 16) : (sendClient s l).store = s.store := by
  unfold sendClient
  simp only []
  split
  · split <;> rfl
  · rfl

@[simp] theorem serveLineOut_store (l : Fin 16) : (serveLineOut s l).store = s.store := by
  unfold serveLineOut
  split
  · rfl
  · exact sendClient_store s l

@[simp] theorem enterWaiting_store : (enterWaiting s).store = s.store := by
  obtain ⟨r, -, -, h⟩ | ⟨-, h⟩ := enterWaiting_cases s <;> rw [h]

@[simp] theorem sendForwarded_store (l : Fin 16) : (sendForwarded s l).store = s.store := by
  unfold sendForwarded
  simp only []
  split <;> rfl

@[simp] theorem sendOutbound_store (o : OutFrame) (rest : List OutFrame) : (sendOutbound s o rest).store = s.store :=
  enterWaiting_store _

/-! ## The Event Unit -/

@[simp] theorem withdrawKind_store (k : Kind) : (withdrawKind s k).store = s.store := by
  cases k <;> rfl

@[simp] theorem setPolicy_store (k : Kind) (p : Policy) : (setPolicy s k p).store = s.store := by
  unfold setPolicy
  simp only []
  split
  · exact withdrawKind_store _ k
  · rfl

end Sys2Proof.Machine
end

section
/-! SUPPORT. What a step can do to the Pattern Store: one of the changes listed here. An invariant of the store is
proved by looking at each change once. -/

namespace Sys2Proof.Machine

/-- The store before and after one event. -/
inductive StoreChange (st : Store) : Store → Prop
  | kept : StoreChange st st
  /-- A side starts on a READY pattern (R83, R87, R106). -/
  | used (k : PatternKind) (h : st.patternReady k = true) : StoreChange st (st.use k (· + 1))
  /-- A side stops (R83, R88, R107). -/
  | freed (k : PatternKind) : StoreChange st (st.use k (· - 1))
  /-- LOAD_WORDS (R70). -/
  | loaded (g : Fin 64) (data : List Word) (hbusy : (st.seg g).busy = false) (hfaulted : (st.seg g).state ≠ .faulted)
      (hfit : (st.seg g).fill + data.length ≤ Config.segmentWords) :
      StoreChange st
        { (st.setSeg g
            { state := loadedState ((st.seg g).fill + data.length), fill := (st.seg g).fill + data.length }) with
          mem := st.mem.writeAll (wordAddr g.val (st.seg g).fill) data }
  /-- CLEAR_SEGMENT (R72, R73). -/
  | clearBegun (g : Fin 64) (hmode : st.mode = .normal) (hbusy : (st.seg g).busy = false)
      (hfrozen : st.coveredBy g (fun e => e.frozen) = false)
      (hpinned : st.coveredBy g (fun e => decide (0 < e.uses)) = false)
      (hplace : st.clearing = none ∨ st.clearQueue.length < Config.clearCapacity) :
      StoreChange st ((st.undefineOver g).beginClear g)
  /-- A clear completes, and the next one begins (R74). -/
  | clearEnded {g : Fin 64} (h : st.clearing = some g) : StoreChange st (st.finishClear g).nextClear
  /-- WIPE_STORE (R76). -/
  | wipeBegun (h : ∀ p, (st.pattern p).uses = 0) : StoreChange st st.beginWipe
  /-- A wipe completes (R77). -/
  | wipeEnded (h : st.mode = .wiping) : StoreChange st st.finishWipe
  /-- DEFINE_PATTERN (R79). -/
  | defined (p : Fin 32) (first : Fin 64) (len : Nat) (hlow : 1 ≤ len) (hhigh : len ≤ Config.storeWords)
      (h : st.spanValid first len = true) :
      StoreChange st (st.setPattern p { st.pattern p with ready := true, first := first, len := len })
  /-- UNDEFINE_PATTERN (R80). -/
  | undefined (p : Fin 32) (hfrozen : (st.pattern p).frozen = false) (huses : (st.pattern p).uses = 0) :
      StoreChange st (st.setPattern p { st.pattern p with ready := false })
  /-- FREEZE_PATTERN (R81). -/
  | frozen (p : Fin 32) (h : (st.pattern p).ready = true) :
      StoreChange st (st.setPattern p { st.pattern p with frozen := true })
  /-- RESET_ENGINE (R85). -/
  | engineReset : StoreChange st st.engineReset
  /-- HARDWARE_RESET (R84). -/
  | hardwareReset : StoreChange st Store.reset

theorem StoreChange.of_eq {st st' : Store} (h : st' = st) : StoreChange st st' := h ▸ .kept

/-! ## The commands that leave the store alone -/

/-- A command's checks in front of an action that leaves the store alone. -/
theorem checked_store {cs : List (Bool × Status)} {s : State} {k : Answer × State} (h : k.2.store = s.store) :
    (checked cs s k).2.store = s.store :=
  checked_keeps (P := fun t => t.store = s.store) rfl fun _ => h

variable (s : State) (ws : List Word)

theorem identifyAct_store : (identifyAct ws s).2.store = s.store := by
  unfold identifyAct
  split <;> rfl

theorem setStreamAct_store : (setStreamAct ws s).2.store = s.store := by
  unfold setStreamAct
  split
  · exact checked_store rfl
  · rfl

theorem readStreamAct_store : (readStreamAct ws s).2.store = s.store := by
  unfold readStreamAct
  split
  · exact checked_store rfl
  · rfl

theorem clearCountsAct_store : (clearCountsAct ws s).2.store = s.store := by
  unfold clearCountsAct
  split
  · exact checked_store rfl
  · rfl

theorem setInjectAct_store : (setInjectAct ws s).2.store = s.store := by
  unfold setInjectAct
  split
  · exact checked_store rfl
  · rfl

theorem injectOneAct_store : (injectOneAct ws s).2.store = s.store := by
  unfold injectOneAct
  split
  · exact checked_store rfl
  · rfl

theorem injectBurstAct_store : (injectBurstAct ws s).2.store = s.store := by
  unfold injectBurstAct
  split
  · exact checked_store rfl
  · rfl

theorem restartChkAct_store : (restartChkAct ws s).2.store = s.store := by
  unfold restartChkAct
  split
  · exact checked_store (restartChecker_store s _)
  · rfl

theorem setLaneAct_store : (setLaneAct ws s).2.store = s.store := by
  unfold setLaneAct
  split
  · exact checked_store rfl
  · rfl

theorem readLaneAct_store : (readLaneAct ws s).2.store = s.store := by
  unfold readLaneAct
  split
  · refine checked_store ?_
    simp only []
    split <;> rfl
  · rfl

theorem setWindowAct_store : (setWindowAct ws s).2.store = s.store := by
  unfold setWindowAct
  split
  · split
    · rfl
    · exact checked_store (checked_store rfl)
  · rfl

theorem readSegmentAct_store : (readSegmentAct ws s).2.store = s.store := by
  unfold readSegmentAct
  split
  · exact checked_store rfl
  · rfl

theorem readPatternAct_store : (readPatternAct ws s).2.store = s.store := by
  unfold readPatternAct
  split
  · exact checked_store rfl
  · rfl

theorem setGateAct_store : (setGateAct ws s).2.store = s.store := by
  unfold setGateAct
  split
  · exact checked_store rfl
  · rfl

theorem startGateAct_store : (startGateAct ws s).2.store = s.store := by
  unfold startGateAct
  split
  · exact checked_store rfl
  · rfl

theorem stopGateAct_store : (stopGateAct ws s).2.store = s.store := by
  unfold stopGateAct
  split
  · exact checked_store (stopGate_store s _)
  · rfl

theorem readGateAct_store : (readGateAct ws s).2.store = s.store := by
  unfold readGateAct
  split
  · exact checked_store rfl
  · rfl

theorem fetchResultsAct_store : (fetchResultsAct ws s).2.store = s.store := by
  unfold fetchResultsAct
  split
  · exact checked_store rfl
  · rfl

theorem releaseResultsAct_store : (releaseResultsAct ws s).2.store = s.store := by
  unfold releaseResultsAct
  split
  · exact checked_store rfl
  · rfl

theorem setRingAct_store : (setRingAct ws s).2.store = s.store := by
  unfold setRingAct
  split
  · exact checked_store rfl
  · rfl

theorem readRingAct_store : (readRingAct ws s).2.store = s.store := by
  unfold readRingAct
  split <;> rfl

theorem readEventsAct_store : (readEventsAct ws s).2.store = s.store := by
  unfold readEventsAct
  split <;> rfl

theorem ackEventsAct_store : (ackEventsAct ws s).2.store = s.store := by
  unfold ackEventsAct
  split
  · split
    · exact checked_store rfl
    · exact checked_store rfl
  · rfl

theorem setEventPolicyAct_store : (setEventPolicyAct ws s).2.store = s.store := by
  unfold setEventPolicyAct
  split
  · split
    · rfl
    · exact checked_store (setPolicy_store s _ _)
  · rfl

/-! ## The commands that change the store -/

/-- A command's checks in front of a change of the store: refused, it changes nothing. -/
theorem checked_storeChange {cs : List (Bool × Status)} {k : Answer × State}
    (h : (∀ c ∈ cs, c.1 = true) → StoreChange s.store k.2.store) : StoreChange s.store (checked cs s k).2.store :=
  checked_keeps (P := fun t => StoreChange s.store t.store) .kept h

theorem resetEngineAct_storeChange : StoreChange s.store (resetEngineAct ws s).2.store := by
  unfold resetEngineAct
  split
  · exact .engineReset
  · exact .kept

theorem startGenAct_storeChange : StoreChange s.store (startGenAct ws s).2.store := by
  unfold startGenAct
  split
  · refine checked_storeChange s fun h => ?_
    simp only [List.mem_cons, List.not_mem_nil, or_false, forall_eq_or_imp, forall_eq] at h
    obtain ⟨-, -, -, -, hready⟩ := h
    exact .used _ hready
  · exact .kept

theorem stopGenAct_storeChange : StoreChange s.store (stopGenAct ws s).2.store := by
  unfold stopGenAct
  split
  · exact checked_storeChange s fun _ => .freed _
  · exact .kept

theorem startChkAct_storeChange : StoreChange s.store (startChkAct ws s).2.store := by
  unfold startChkAct
  split
  · refine checked_storeChange s fun h => ?_
    simp only [List.mem_cons, List.not_mem_nil, or_false, forall_eq_or_imp, forall_eq] at h
    obtain ⟨-, -, -, -, hready⟩ := h
    exact .used _ hready
  · exact .kept

theorem stopChkAct_storeChange : StoreChange s.store (stopChkAct ws s).2.store := by
  unfold stopChkAct
  split
  · exact checked_storeChange s fun _ => .freed _
  · exact .kept

theorem loadWordsAct_storeChange : StoreChange s.store (loadWordsAct ws s).2.store := by
  unfold loadWordsAct
  split
  · split
    · refine checked_storeChange s fun h => ?_
      simp only [List.mem_cons, List.not_mem_nil, or_false, forall_eq_or_imp, forall_eq, Bool.not_eq_true',
        bne_iff_ne, decide_eq_true_eq] at h
      obtain ⟨-, -, hbusy, hfaulted, hfit⟩ := h
      exact .loaded _ _ hbusy hfaulted hfit
    · exact .kept
  · exact .kept

theorem clearSegmentAct_storeChange : StoreChange s.store (clearSegmentAct ws s).2.store := by
  unfold clearSegmentAct
  split
  · refine checked_storeChange s fun h => ?_
    simp only [List.mem_cons, List.not_mem_nil, or_false, forall_eq_or_imp, forall_eq, Bool.not_eq_true', beq_iff_eq,
      Bool.or_eq_true, Option.isNone_iff_eq_none, decide_eq_true_eq] at h
    obtain ⟨-, hmode, hbusy, hfrozen, hpinned, hplace⟩ := h
    exact .clearBegun _ hmode hbusy hfrozen hpinned hplace
  · exact .kept

theorem wipeStoreAct_storeChange : StoreChange s.store (wipeStoreAct ws s).2.store := by
  unfold wipeStoreAct
  split
  · refine checked_storeChange s fun h => ?_
    simp only [List.mem_cons, List.not_mem_nil, or_false, forall_eq_or_imp, forall_eq, Bool.not_eq_true',
      List.any_eq_false, mem_indexes, forall_const, decide_eq_true_eq, Nat.not_lt, Nat.le_zero] at h
    obtain ⟨-, hunused⟩ := h
    exact .wipeBegun hunused
  · exact .kept

theorem definePatternAct_storeChange : StoreChange s.store (definePatternAct ws s).2.store := by
  unfold definePatternAct
  split
  · refine checked_storeChange s fun h => ?_
    simp only [List.mem_cons, List.not_mem_nil, or_false, forall_eq_or_imp, forall_eq, inRange_iff] at h
    obtain ⟨-, -, ⟨hlow, hhigh⟩, -, -, -, hspan⟩ := h
    exact .defined _ _ _ hlow hhigh hspan
  · exact .kept

theorem undefinePatternAct_storeChange : StoreChange s.store (undefinePatternAct ws s).2.store := by
  unfold undefinePatternAct
  split
  · refine checked_storeChange s fun h => ?_
    simp only [List.mem_cons, List.not_mem_nil, or_false, forall_eq_or_imp, forall_eq, Bool.not_eq_true',
      beq_iff_eq] at h
    obtain ⟨-, hfrozen, huses⟩ := h
    exact .undefined _ hfrozen huses
  · exact .kept

theorem freezePatternAct_storeChange : StoreChange s.store (freezePatternAct ws s).2.store := by
  unfold freezePatternAct
  split
  · refine checked_storeChange s fun h => ?_
    simp only [List.mem_cons, List.not_mem_nil, or_false, forall_eq_or_imp, forall_eq] at h
    obtain ⟨-, hready⟩ := h
    exact .frozen _ hready
  · exact .kept

/-! ## Every event -/

variable {s} {t : State}

/-- A command changes the store as its action does. -/
theorem runCommand_storeChange {row : Instr} {act : List Word → State → Answer × State}
    (hact : ∀ s ws, StoreChange s.store (act ws s).2.store) (h : runCommand row act s = .next t) :
    StoreChange s.store t.store := by
  obtain hnone | ⟨f, rest, -, -, hrun⟩ := runCommand_cases row act s
  · rw [hnone] at h
    cases h
    exact .kept
  · rw [hrun] at h
    cases h
    rw [State.answer_store]
    exact hact (s.dequeue rest) f.args

theorem runCommand_store {row : Instr} {act : List Word → State → Answer × State}
    (hact : ∀ s ws, (act ws s).2.store = s.store) (h : runCommand row act s = .next t) : StoreChange s.store t.store :=
  runCommand_storeChange (fun s ws => .of_eq (hact s ws)) h

theorem execUnknownCommand_store (h : execUnknownCommand s = .next t) : t.store = s.store := by
  unfold execUnknownCommand at h
  split at h
  · cases h; rfl
  · split at h
    · cases h; exact State.answer_store _ _ _ _
    · cases h; rfl

theorem execClientInArrival_store {l : Fin 16} {f : Frame} (h : execClientInArrival l f s = .next t) :
    t.store = s.store := by
  unfold execClientInArrival at h
  split at h
  · split at h
    · cases h; exact takeControl_store _ _ _
    · cases h; rw [takeClient_store, takeControl_store]
    · cases h; exact takeClient_store _ _ _
  · cases h; rfl

theorem execLineInArrival_store {l : Fin 16} {f : Frame} {b : Bool} (h : execLineInArrival l f b s = .next t) :
    t.store = s.store := by
  unfold execLineInArrival at h
  simp only [] at h
  split at h
  · split at h
    · split_ifs at h <;> cases h <;> simp only [deliver_store, forward_store, countVerdict_store]
    · cases h; rw [forward_store, countVerdict_store]
  · cases h; rfl

theorem execLineOutOpportunity_store {l : Fin 16} (h : execLineOutOpportunity l s = .next t) : t.store = s.store := by
  unfold execLineOutOpportunity at h
  split at h
  · split at h
    · cases h; exact sendClient_store s l
    · cases h; rw [serveLineOut_store, paceLane_store]
  · cases h; rfl

theorem execClientOutOpportunity_store {l : Fin 16} (h : execClientOutOpportunity l s = .next t) :
    t.store = s.store := by
  unfold execClientOutOpportunity at h
  split at h
  · split at h
    · split at h
      · cases h; exact sendOutbound_store s _ _
      · cases h; exact sendForwarded_store s l
    · cases h; exact sendForwarded_store s l
  · cases h; rfl

theorem execPacingExpiry_store {i : Fin 256} (h : execPacingExpiry i s = .next t) : t.store = s.store := by
  unfold execPacingExpiry at h
  split at h
  · cases h; exact paceStream_store s i
  · cases h; rfl

theorem execRateInjection_store {i : Fin 256} {w : Word} (h : execRateInjection i w s = .next t) :
    t.store = s.store := by
  unfold execRateInjection at h
  simp only [] at h
  split at h <;> cases h <;> rfl

theorem execSilenceExpiry_store {i : Fin 256} (h : execSilenceExpiry i s = .next t) : t.store = s.store := by
  unfold execSilenceExpiry at h
  split at h
  · cases h; exact expireSilence_store s i
  · cases h; rfl

theorem execIntervalEnd_store {g : Fin 4} (h : execIntervalEnd g s = .next t) : t.store = s.store := by
  unfold execIntervalEnd at h
  split at h
  · cases h; exact countEvent_store s _ g
  · cases h; rfl

theorem execResetRelease_store {a : BitVec 6} {n : BitVec 2} (h : execResetRelease a n s = .next t) :
    t.store = s.store := by
  unfold execResetRelease at h
  split at h <;> cases h <;> rfl

/-- An event that does nothing under a reset and leaves the store alone otherwise. -/
theorem running_store {u : State} (hu : u.store = s.store)
    (h : (if s.inReset then .next s else .next u : Result) = .next t) : t.store = s.store := by
  split at h
  · cases h; rfl
  · cases h; exact hu

theorem execT1ms_store {order : List TickSite} (h : execT1ms order s = .next t) : t.store = s.store :=
  running_store (foldl_store { s with ms := (s.ms + 1) % 1000 } (fun s x => tickSite_store s _ x) _) h

/-- A completed clear leaves the store as R74 says; its CLEAR_DONE is raised in between. -/
theorem completeClear_store (s : State) (g : Fin 64) :
    (completeClear s g).store = (s.store.finishClear g).nextClear := by
  rw [completeClear, State.setStore_store, State.raiseDevice_store, State.setStore_store]

theorem execClearCompletion_storeChange (h : execClearCompletion s = .next t) : StoreChange s.store t.store := by
  unfold execClearCompletion at h
  split at h
  case h_1 g hclearing =>
    split at h
    · cases h; exact .kept
    · cases h
      rw [completeClear_store]
      exact .clearEnded hclearing
  case h_2 => cases h; exact .kept

theorem execWipeCompletion_storeChange (h : execWipeCompletion s = .next t) : StoreChange s.store t.store := by
  unfold execWipeCompletion at h
  split at h
  case isTrue hwiping =>
    simp only [Bool.and_eq_true, beq_iff_eq] at hwiping
    cases h
    rw [State.raiseDevice_store]
    exact .wipeEnded hwiping.2
  case isFalse => cases h; exact .kept

/-- What any event does to the store. -/
theorem exec_storeChange {c : Instr} (h : exec c s = .next t) : StoreChange s.store t.store := by
  cases c with
  | clientInArrival l f => exact .of_eq (execClientInArrival_store h)
  | lineInArrival l f b => exact .of_eq (execLineInArrival_store h)
  | lineOutOpportunity l => exact .of_eq (execLineOutOpportunity_store h)
  | pacingExpiry i => exact .of_eq (execPacingExpiry_store h)
  | rateInjection i w => exact .of_eq (execRateInjection_store h)
  | clientOutOpportunity l => exact .of_eq (execClientOutOpportunity_store h)
  | waitingReplyEntry => exact .of_eq (running_store (enterWaiting_store s) h)
  | t1ms order => exact .of_eq (execT1ms_store h)
  | t10ms order => exact .of_eq (running_store (tickGates_store s _ order) h)
  | t100ms order => exact .of_eq (running_store (tickGates_store s _ order) h)
  | t1s order => exact .of_eq (running_store (tickGates_store s _ order) h)
  | syncIn order => exact .of_eq (running_store (foldl_store s (fun s g => edgeGate_store s _ g) _) h)
  | silenceExpiry i => exact .of_eq (execSilenceExpiry_store h)
  | intervalEnd g => exact .of_eq (execIntervalEnd_store h)
  | gateOutPulseEnd => cases h; exact .kept
  | clearCompletion => exact execClearCompletion_storeChange h
  | wipeCompletion => exact execWipeCompletion_storeChange h
  | hardwareReset => cases h; exact .hardwareReset
  | resetRelease a n => exact .of_eq (execResetRelease_store h)
  | unknownCommand => exact .of_eq (execUnknownCommand_store h)
  | identify => exact runCommand_store identifyAct_store h
  | echo => exact runCommand_store (fun _ _ => rfl) h
  | resetEngine => exact runCommand_storeChange resetEngineAct_storeChange h
  | setStream => exact runCommand_store setStreamAct_store h
  | readStream => exact runCommand_store readStreamAct_store h
  | clearCounts => exact runCommand_store clearCountsAct_store h
  | startGen => exact runCommand_storeChange startGenAct_storeChange h
  | stopGen => exact runCommand_storeChange stopGenAct_storeChange h
  | setInject => exact runCommand_store setInjectAct_store h
  | injectOne => exact runCommand_store injectOneAct_store h
  | injectBurst => exact runCommand_store injectBurstAct_store h
  | startChk => exact runCommand_storeChange startChkAct_storeChange h
  | stopChk => exact runCommand_storeChange stopChkAct_storeChange h
  | restartChk => exact runCommand_store restartChkAct_store h
  | setLane => exact runCommand_store setLaneAct_store h
  | readLane => exact runCommand_store readLaneAct_store h
  | setWindow => exact runCommand_store setWindowAct_store h
  | loadWords => exact runCommand_storeChange loadWordsAct_storeChange h
  | readSegment => exact runCommand_store readSegmentAct_store h
  | clearSegment => exact runCommand_storeChange clearSegmentAct_storeChange h
  | wipeStore => exact runCommand_storeChange wipeStoreAct_storeChange h
  | definePattern => exact runCommand_storeChange definePatternAct_storeChange h
  | undefinePattern => exact runCommand_storeChange undefinePatternAct_storeChange h
  | freezePattern => exact runCommand_storeChange freezePatternAct_storeChange h
  | readPattern => exact runCommand_store readPatternAct_store h
  | setGate => exact runCommand_store setGateAct_store h
  | startGate => exact runCommand_store startGateAct_store h
  | stopGate => exact runCommand_store stopGateAct_store h
  | readGate => exact runCommand_store readGateAct_store h
  | fetchResults => exact runCommand_store fetchResultsAct_store h
  | releaseResults => exact runCommand_store releaseResultsAct_store h
  | setRing => exact runCommand_store setRingAct_store h
  | readRing => exact runCommand_store readRingAct_store h
  | readEvents => exact runCommand_store readEventsAct_store h
  | ackEvents => exact runCommand_store ackEventsAct_store h
  | setEventPolicy => exact runCommand_store setEventPolicyAct_store h

/-- A predicate of the store that every change of the store keeps is kept by every step. -/
theorem step_keeps_of_storeChange {P : Store → Prop} (hchange : ∀ {st st'}, StoreChange st st' → P st → P st')
    (hs : P s.store) (h : step s = .next t) : P t.store :=
  step_keeps (P := fun s => P s.store) (fun _ _ h => h) (fun hexec => hchange (exec_storeChange hexec)) hs h

end Sys2Proof.Machine
end

section
/-! SUPPORT. The Pattern Store's law (R60, R68, R69, R72, R76, R78), through every change of the store. -/

namespace Sys2Proof.Machine

/-! ## Segments and patterns after a change -/

@[simp] theorem Store.seg_setSeg (st : Store) (g h : Fin 64) (x : Segment) :
    (st.setSeg g x).seg h = if g = h then x else st.seg h := by
  simp [Store.seg, Store.setSeg, Vector.getElem_set, Fin.ext_iff]

@[simp] theorem Store.pattern_setPattern (st : Store) (p q : Fin 32) (e : Pattern) :
    (st.setPattern p e).pattern q = if p = q then e else st.pattern q := by
  simp [Store.pattern, Store.setPattern, Vector.getElem_set, Fin.ext_iff]

/-- A use count's change is a change of the one pattern the kind names (R83). -/
theorem Store.use_user_eq (st : Store) (p : Fin 32) (f : Nat → Nat) :
    st.use (.user p) f = st.setPattern p { st.pattern p with uses := f (st.pattern p).uses } := rfl

@[simp] theorem Store.pattern_undefineOver (st : Store) (g : Fin 64) (p : Fin 32) :
    (st.undefineOver g).pattern p =
      if (st.pattern p).covers g then { st.pattern p with ready := false } else st.pattern p :=
  tableMap_get _ _ p

/-- A segment asked to be cleared is under no READY pattern any more (R73). -/
theorem Store.uncovered_undefineOver (st : Store) (g : Fin 64) (p : Fin 32) :
    ((st.undefineOver g).pattern p).covers g = false := by
  rw [Store.pattern_undefineOver]
  split
  case isTrue => rfl
  case isFalse hcovers => exact Bool.eq_false_iff.mpr hcovers

/-- The segment a clear is asked for is CLEARING when the machine is idle, and CLEAR_QUEUED otherwise (R73). -/
@[simp] theorem Store.seg_beginClear (st : Store) (g k : Fin 64) :
    (st.beginClear g).seg k =
      if g = k then { state := if st.clearing = none then .clearing else .clearQueued, fill := 0 } else st.seg k := by
  unfold Store.beginClear
  cases st.clearing <;> exact Store.seg_setSeg st g k _

@[simp] theorem Store.clearing_beginClear (st : Store) (g : Fin 64) :
    (st.beginClear g).clearing = if st.clearing = none then some g else st.clearing := by
  unfold Store.beginClear
  cases h : st.clearing
  · rfl
  · exact h

@[simp] theorem Store.clearQueue_beginClear (st : Store) (g : Fin 64) :
    (st.beginClear g).clearQueue = if st.clearing = none then st.clearQueue else st.clearQueue ++ [g] := by
  unfold Store.beginClear
  cases st.clearing <;> rfl

/-- The rest of the store stays when a clear is asked for (R73). -/
theorem Store.beginClear_frame (st : Store) (g : Fin 64) :
    (st.beginClear g).mem = st.mem ∧ (st.beginClear g).mode = st.mode ∧ (st.beginClear g).patterns = st.patterns := by
  unfold Store.beginClear
  cases st.clearing <;> exact ⟨rfl, rfl, rfl⟩

/-- Nothing queued, the clear machine is idle after a clear (R74). -/
theorem Store.nextClear_of_nil {st : Store} (h : st.clearQueue = []) : st.nextClear = st := by
  unfold Store.nextClear
  rw [h]

/-- The oldest queued segment is cleared next (R74). -/
theorem Store.nextClear_of_cons {st : Store} {a : Fin 64} {rest : List (Fin 64)} (h : st.clearQueue = a :: rest) :
    st.nextClear =
      { (st.setSeg a { state := .clearing, fill := 0 }) with clearing := some a, clearQueue := rest } := by
  unfold Store.nextClear
  rw [h]

/-- The next clear touches at most a queued segment (R74). -/
theorem Store.seg_nextClear (st : Store) (k : Fin 64) :
    st.nextClear.seg k = st.seg k
      ∨ k ∈ st.clearQueue ∧ st.nextClear.seg k = { state := .clearing, fill := 0 } := by
  cases hq : st.clearQueue with
  | nil => rw [Store.nextClear_of_nil hq]; exact .inl rfl
  | cons a rest =>
    rw [Store.nextClear_of_cons hq]
    by_cases hk : a = k
    · exact .inr ⟨hk ▸ List.mem_cons_self, (Store.seg_setSeg st a k _).trans (if_pos hk)⟩
    · exact .inl ((Store.seg_setSeg st a k _).trans (if_neg hk))

theorem Store.nextClear_frame (st : Store) :
    st.nextClear.mem = st.mem ∧ st.nextClear.mode = st.mode ∧ st.nextClear.patterns = st.patterns := by
  unfold Store.nextClear
  split <;> exact ⟨rfl, rfl, rfl⟩

@[simp] theorem Store.seg_finishClear (st : Store) (g k : Fin 64) :
    (st.finishClear g).seg k = if g = k then { state := .blank, fill := 0 } else st.seg k :=
  Store.seg_setSeg st g k _

@[simp] theorem Store.seg_beginWipe (st : Store) (g : Fin 64) :
    st.beginWipe.seg g = { state := .clearing, fill := 0 } := tableMap_get _ _ g

@[simp] theorem Store.pattern_beginWipe (st : Store) (p : Fin 32) :
    st.beginWipe.pattern p = { st.pattern p with ready := false, frozen := false } := tableMap_get _ _ p

@[simp] theorem Store.seg_finishWipe (st : Store) (g : Fin 64) :
    st.finishWipe.seg g = { state := .blank, fill := 0 } := tableMap_get _ _ g

@[simp] theorem Store.pattern_engineReset (st : Store) (p : Fin 32) :
    st.engineReset.pattern p = { st.pattern p with uses := 0 } := tableMap_get _ _ p

theorem Store.seg_engineReset (st : Store) (g : Fin 64) :
    st.engineReset.seg g = if st.mode = .wiping then Segment.faulty else (st.seg g).engineReset := tableMap_get _ _ g

/-- A pattern covers the segment of each of its positions (R60, R78). -/
theorem Pattern.covers_of_position {e : Pattern} (hready : e.ready = true) {i : Nat} (hi : i < e.len) {g : Fin 64}
    (hg : g.val = e.first.val + i / Config.segmentWords) : e.covers g = true := by
  have hspan : spanOf e.len = (e.len + 255) / 256 := rfl
  have hpos : g.val = e.first.val + i / 256 := hg
  simp only [Pattern.covers, hready, Bool.true_and, Bool.and_eq_true, decide_eq_true_eq]
  omega

theorem Segment.busy_eq_false (x : Segment) : x.busy = false ↔ x.state ≠ .clearQueued ∧ x.state ≠ .clearing := by
  simp [Segment.busy]

theorem Store.coveredBy_eq_false (st : Store) (g : Fin 64) (q : Pattern → Bool) :
    st.coveredBy g q = false ↔ ∀ p, (st.pattern p).covers g = true → q (st.pattern p) = false := by
  simp [Store.coveredBy]

/-! ## The law of the store -/

/-- `StoreLaw`, of the store alone. -/
structure Store.Lawful (st : Store) : Prop where
  words : st.mem.wf = true
  segs : ∀ g, (st.seg g).lawful
  clears : st.clearLawful
  patterns : ∀ p, st.patternLawful (st.pattern p)

theorem storeLaw_iff (s : State) : StoreLaw s ↔ s.store.Lawful :=
  ⟨fun ⟨hwords, hsegs, hclears, hpatterns⟩ => ⟨hwords, hsegs, hclears, hpatterns⟩,
    fun ⟨hwords, hsegs, hclears, hpatterns⟩ => ⟨hwords, hsegs, hclears, hpatterns⟩⟩

/-- A segment that is not loaded holds no word (R68). -/
theorem Segment.lawful.fill_eq_zero {x : Segment} (h : x.lawful) (hpartly : x.state ≠ .partly)
    (hfull : x.state ≠ .full) : x.fill = 0 := by
  unfold Segment.lawful at h
  split at h
  · exact absurd ‹_› hpartly
  · exact absurd ‹_› hfull
  all_goals exact h

/-- An engine reset keeps a segment's words: one it puts in FAULTED held none (R85). -/
theorem Segment.lawful.engineReset {x : Segment} (h : x.lawful) :
    x.engineReset.lawful ∧ x.engineReset.fill = x.fill
      ∧ x.engineReset.state ≠ .clearQueued ∧ x.engineReset.state ≠ .clearing := by
  unfold Segment.engineReset
  split
  case h_1 hstate => exact ⟨h, rfl, by simp [hstate], by simp [hstate]⟩
  case h_2 hstate => exact ⟨h, rfl, by simp [hstate], by simp [hstate]⟩
  case h_3 hstate => exact ⟨h, rfl, by simp [hstate], by simp [hstate]⟩
  all_goals
    exact ⟨rfl, (h.fill_eq_zero (by simp [*]) (by simp [*])).symm, nofun, nofun⟩

/-- The state a load gives a segment fits its fill (R68, R70). -/
theorem Segment.lawful_loaded {fill : Nat} (h : fill ≤ Config.segmentWords) :
    Segment.lawful { state := loadedState fill, fill := fill } := by
  unfold loadedState Segment.lawful
  split_ifs with hzero hless
  · exact hzero
  · exact ⟨Nat.pos_of_ne_zero hzero, hless⟩
  · exact Nat.le_antisymm h (Nat.le_of_not_lt hless)

theorem loadedState_not_busy (fill : Nat) : loadedState fill ≠ .clearQueued ∧ loadedState fill ≠ .clearing := by
  unfold loadedState
  split_ifs <;> exact ⟨nofun, nofun⟩

variable {st st' : Store} {e : Pattern}

/-- A pattern's law speaks of the segments it covers alone, and words loaded into them leave it (R78). -/
theorem Store.patternLawful.of_fill (he : st.patternLawful e)
    (h : ∀ g, e.covers g = true → (st.seg g).fill ≤ (st'.seg g).fill) : st'.patternLawful e := by
  obtain ⟨hready, hfrozen, huses⟩ := he
  refine ⟨fun hr => ?_, hfrozen, huses⟩
  obtain ⟨hlow, hhigh, hwords⟩ := hready hr
  refine ⟨hlow, hhigh, fun i hi => ?_⟩
  obtain ⟨g, hg, hfill⟩ := hwords i hi
  exact ⟨g, hg, hfill.trans_le (h g (Pattern.covers_of_position hr hi hg))⟩

/-- An UNDEFINED pattern is lawful when it is neither frozen nor in use. -/
theorem Store.patternLawful_of_undefined (hready : e.ready = false) (hfrozen : e.frozen = false) (huses : e.uses = 0) :
    st.patternLawful e := by
  simp [Store.patternLawful, hready, hfrozen, huses]

/-- What the law of the clear machine says in NORMAL mode. -/
theorem Store.clearLawful_of_normal (hmode : st.mode = .normal) :
    st.clearLawful ↔
      st.clearQueue.Nodup ∧ st.clearQueue.length ≤ Config.clearCapacity
        ∧ (∀ g, g ∈ st.clearQueue ↔ (st.seg g).state = .clearQueued)
        ∧ (∀ g, st.clearing = some g ↔ (st.seg g).state = .clearing)
        ∧ (st.clearQueue ≠ [] → st.clearing ≠ none) := by
  simp [Store.clearLawful, hmode]

/-- What the law of the clear machine says in WIPING mode. -/
theorem Store.clearLawful_of_wiping (hmode : st.mode = .wiping) :
    st.clearLawful ↔
      st.clearQueue.Nodup ∧ st.clearQueue.length ≤ Config.clearCapacity
        ∧ (∀ g, g ∈ st.clearQueue ↔ (st.seg g).state = .clearQueued)
        ∧ st.clearQueue = [] ∧ st.clearing = none ∧ ∀ g, (st.seg g).state = .clearing := by
  simp [Store.clearLawful, hmode]

/-- The clear machine's law speaks of which segments are queued and which are cleared alone. -/
theorem Store.clearLawful.congr (h : st.clearLawful) (hmode : st'.mode = st.mode)
    (hclearing : st'.clearing = st.clearing) (hqueue : st'.clearQueue = st.clearQueue)
    (hstate : ∀ g, ((st'.seg g).state = .clearQueued ↔ (st.seg g).state = .clearQueued)
      ∧ ((st'.seg g).state = .clearing ↔ (st.seg g).state = .clearing)) : st'.clearLawful := by
  simp only [Store.clearLawful, hmode, hclearing, hqueue, hstate]
  exact h

/-- What every segment satisfies, it satisfies after a change of one segment to one that does. -/
theorem Store.forall_setSeg {Q : Segment → Prop} {g : Fin 64} {x : Segment} (hx : Q x) (h : ∀ k, Q (st.seg k))
    (k : Fin 64) : Q ((st.setSeg g x).seg k) := by
  rw [Store.seg_setSeg]
  split
  · exact hx
  · exact h k

/-- With nothing to clear the machine is idle (R69). -/
theorem Store.clearLawful_of_idle (hmode : st.mode = .normal) (hclearing : st.clearing = none)
    (hqueue : st.clearQueue = []) (hsegs : ∀ g, (st.seg g).state ≠ .clearQueued ∧ (st.seg g).state ≠ .clearing) :
    st.clearLawful := by
  rw [Store.clearLawful_of_normal hmode, hclearing, hqueue]
  exact ⟨List.nodup_nil, Nat.zero_le _, fun g => ⟨nofun, fun h => absurd h (hsegs g).1⟩,
    fun g => ⟨nofun, fun h => absurd h (hsegs g).2⟩, fun h => absurd rfl h⟩

/-- A segment asked to be cleared joins the clear machine (R69, R73). -/
theorem Store.clearLawful_beginClear {g : Fin 64} (hmode : st.mode = .normal) (hbusy : (st.seg g).busy = false)
    (hplace : st.clearing = none ∨ st.clearQueue.length < Config.clearCapacity) (h : st.clearLawful) :
    (st.beginClear g).clearLawful := by
  obtain ⟨hnotQueued, hnotClearing⟩ := (Segment.busy_eq_false _).mp hbusy
  obtain ⟨hnodup, hlength, hqueue, hclearing, hrunning⟩ := (Store.clearLawful_of_normal hmode).mp h
  have hnotMem : g ∉ st.clearQueue := fun hg => hnotQueued ((hqueue g).mp hg)
  obtain ⟨-, hmode', -⟩ := st.beginClear_frame g
  rw [Store.clearLawful_of_normal (hmode'.trans hmode)]
  simp only [Store.seg_beginClear, Store.clearing_beginClear, Store.clearQueue_beginClear]
  by_cases hidle : st.clearing = none
  · simp only [hidle, if_true]
    refine ⟨hnodup, hlength, fun k => ?_, fun k => ?_, fun _ => nofun⟩
    · split
      case isTrue hk => exact iff_of_false (hk ▸ hnotMem) nofun
      case isFalse => exact hqueue k
    · split
      case isTrue hk => exact iff_of_true (congrArg some hk) rfl
      case isFalse hk =>
        rw [← hclearing k, hidle]
        exact iff_of_false (fun hsome => hk (Option.some.inj hsome)) nofun
  · simp only [hidle, if_false]
    refine ⟨hnodup.append (List.nodup_singleton g) (List.disjoint_singleton.mpr hnotMem), ?_, fun k => ?_, fun k => ?_,
      fun _ => hidle⟩
    · rw [List.length_append]
      exact hplace.resolve_left hidle
    · rw [List.mem_append, List.mem_singleton]
      split
      case isTrue hk => exact iff_of_true (.inr hk.symm) rfl
      case isFalse hk => rw [hqueue k, or_iff_left (Ne.symm hk)]
    · split
      case isTrue hk => exact iff_of_false (fun hc => hnotClearing ((hclearing g).mp (hk ▸ hc))) nofun
      case isFalse => exact hclearing k

/-- A single clear runs in NORMAL mode (R69, R76). -/
theorem Store.clearLawful.mode_eq_normal (h : st.clearLawful) {g : Fin 64} (hg : st.clearing = some g) :
    st.mode = .normal := by
  cases hmode : st.mode with
  | normal => rfl
  | wiping =>
    obtain ⟨-, -, -, -, hnone, -⟩ := (Store.clearLawful_of_wiping hmode).mp h
    rw [hg] at hnone
    cases hnone

/-- A clear ends: the machine is idle with nothing queued, and clears the oldest queued segment otherwise (R69, R74). -/
theorem Store.clearLawful.endClear (h : st.clearLawful) {g : Fin 64} (hg : st.clearing = some g) :
    ((st.finishClear g).nextClear).clearLawful := by
  have hmode := h.mode_eq_normal hg
  obtain ⟨hnodup, hlength, hqueue, hclearing, -⟩ := (Store.clearLawful_of_normal hmode).mp h
  have hothers : ∀ k, g ≠ k → (st.seg k).state ≠ .clearing := fun k hk hstate =>
    hk (Option.some.inj (hg.symm.trans ((hclearing k).mpr hstate)))
  cases hq : st.clearQueue with
  | nil =>
    rw [Store.nextClear_of_nil (st := st.finishClear g) hq]
    refine Store.clearLawful_of_idle hmode rfl hq fun k => ?_
    rw [Store.seg_finishClear]
    split
    case isTrue => exact ⟨nofun, nofun⟩
    case isFalse hk =>
      refine ⟨fun hstate => ?_, hothers k hk⟩
      have hmem := (hqueue k).mpr hstate
      rw [hq] at hmem
      cases hmem
  | cons a rest =>
    rw [hq] at hnodup hlength hqueue
    obtain ⟨hnotMem, hrest⟩ := List.nodup_cons.mp hnodup
    have hseg : ∀ k, ((st.finishClear g).nextClear).seg k =
        if a = k then { state := .clearing, fill := 0 } else (st.finishClear g).seg k := fun k => by
      rw [Store.nextClear_of_cons (st := st.finishClear g) hq]
      exact Store.seg_setSeg _ a k _
    obtain ⟨-, hsame, -⟩ := (st.finishClear g).nextClear_frame
    rw [Store.clearLawful_of_normal (hsame.trans hmode)]
    simp only [hseg, Store.seg_finishClear]
    rw [Store.nextClear_of_cons (st := st.finishClear g) hq]
    refine ⟨hrest, Nat.le_of_succ_le hlength, fun k => ?_, fun k => ?_, fun _ => nofun⟩
    · have hk := hqueue k
      rw [List.mem_cons] at hk
      split
      case isTrue ha => exact iff_of_false (ha ▸ hnotMem) nofun
      case isFalse ha =>
        rw [or_iff_right (Ne.symm ha)] at hk
        split
        case isTrue hgk =>
          refine iff_of_false (fun hmem => ?_) nofun
          have hqueued := hk.mp hmem
          rw [(hclearing k).mp (hgk ▸ hg)] at hqueued
          cases hqueued
        case isFalse => exact hk
    · split
      case isTrue ha => exact iff_of_true (congrArg some ha) rfl
      case isFalse ha =>
        refine iff_of_false (fun hsome => ha (Option.some.inj hsome)) ?_
        split
        case isTrue => exact nofun
        case isFalse hk => exact hothers k hk

namespace Store.Lawful

/-! ## Patterns change -/

theorem setPattern (h : st.Lawful) (p : Fin 32) (he : st.patternLawful e) : (st.setPattern p e).Lawful where
  words := h.words
  segs := h.segs
  clears := h.clears
  patterns q := by
    rw [Store.pattern_setPattern]
    split
    · exact he
    · exact h.patterns q

/-- A use count changes, and a pattern in use is READY (R83). -/
theorem use (h : st.Lawful) (k : PatternKind) {f : Nat → Nat}
    (hready : ∀ p, k = .user p → 0 < f (st.pattern p).uses → (st.pattern p).ready = true) : (st.use k f).Lawful := by
  cases k with
  | prbs p => exact h
  | fixed w => exact h
  | user p =>
    obtain ⟨hwords, hfrozen, -⟩ := h.patterns p
    rw [Store.use_user_eq]
    exact h.setPattern p ⟨hwords, hfrozen, hready p rfl⟩

/-- A pattern defined over a valid span has every position in a loaded word (R79). -/
theorem exists_word_of_spanValid (h : st.Lawful) {first : Fin 64} {len : Nat} (hspan : st.spanValid first len = true)
    {i : Nat} (hi : i < len) :
    ∃ g : Fin 64, g.val = first.val + i / Config.segmentWords ∧ i % Config.segmentWords < (st.seg g).fill := by
  rw [Store.spanValid, Bool.and_eq_true, decide_eq_true_eq, List.all_eq_true] at hspan
  obtain ⟨hinside, hsegs⟩ := hspan
  have hspanOf : spanOf len = (len + 255) / 256 := rfl
  let g : Fin 64 := ⟨first.val + i / 256, by omega⟩
  have hg : g.val = first.val + i / 256 := rfl
  refine ⟨g, hg, ?_⟩
  have hseg := hsegs g (mem_indexes g)
  split at hseg
  case isTrue =>
    rw [beq_iff_eq] at hseg
    have hfull := h.segs g
    simp only [Segment.lawful, hseg] at hfull
    rw [hfull]
    exact Nat.mod_lt _ (by decide)
  case isFalse hfirst =>
    rw [if_pos (by omega), Bool.and_eq_true, decide_eq_true_eq] at hseg
    have hwords : len - 256 * (spanOf len - 1) ≤ (st.seg g).fill := hseg.2
    show i % 256 < (st.seg g).fill
    omega

theorem define (h : st.Lawful) (p first : Fin _) {len : Nat} (hlow : 1 ≤ len) (hhigh : len ≤ Config.storeWords)
    (hspan : st.spanValid first len = true) :
    (st.setPattern p { st.pattern p with ready := true, first := first, len := len }).Lawful :=
  h.setPattern p
    ⟨fun _ => ⟨hlow, hhigh, fun _ hi => h.exists_word_of_spanValid hspan hi⟩, fun _ => rfl, fun _ => rfl⟩

/-! ## Segments change -/

/-- Segments change under a law of their own, and no pattern loses a word of a segment it covers. -/
theorem of_segs (h : st.Lawful) (hwords : st'.mem.wf = true) (hsegs : ∀ g, (st'.seg g).lawful)
    (hclears : st'.clearLawful) (hpatterns : st'.patterns = st.patterns)
    (hfill : ∀ p g, (st.pattern p).covers g = true → (st.seg g).fill ≤ (st'.seg g).fill) : st'.Lawful where
  words := hwords
  segs := hsegs
  clears := hclears
  patterns p := by
    have hp : st'.pattern p = st.pattern p := by rw [Store.pattern, Store.pattern, hpatterns]
    rw [hp]
    exact (h.patterns p).of_fill (hfill p)

/-- A load touches a segment that is neither queued nor cleared, and only adds words to it (R70). -/
theorem load (h : st.Lawful) {g : Fin 64} {data : List Word} (hbusy : (st.seg g).busy = false)
    (hfit : (st.seg g).fill + data.length ≤ Config.segmentWords) :
    Store.Lawful
      { (st.setSeg g
          { state := loadedState ((st.seg g).fill + data.length), fill := (st.seg g).fill + data.length }) with
        mem := st.mem.writeAll (wordAddr g.val (st.seg g).fill) data } := by
  obtain ⟨hnotQueued, hnotClearing⟩ := (Segment.busy_eq_false _).mp hbusy
  obtain ⟨hnewQueued, hnewClearing⟩ := loadedState_not_busy ((st.seg g).fill + data.length)
  have hroom : wordAddr g.val (st.seg g).fill + data.length ≤ Config.storeWords := by
    have haddr : wordAddr g.val (st.seg g).fill = 256 * g.val + (st.seg g).fill := rfl
    have hsize : Config.storeWords = 256 * 64 := rfl
    have hseg : Config.segmentWords = 256 := rfl
    have hlt := g.isLt
    omega
  have hseg := fun k => Store.seg_setSeg st g k
    { state := loadedState ((st.seg g).fill + data.length), fill := (st.seg g).fill + data.length }
  refine h.of_segs (Memory.writeAll_wf hroom h.words) (Store.forall_setSeg (Segment.lawful_loaded hfit) h.segs)
    (h.clears.congr rfl rfl rfl fun k => ?_) rfl fun p k _ => ?_
  · refine (hseg k).symm ▸ ?_
    split
    case isTrue hk => exact ⟨iff_of_false hnewQueued (hk ▸ hnotQueued), iff_of_false hnewClearing (hk ▸ hnotClearing)⟩
    case isFalse => exact ⟨Iff.rfl, Iff.rfl⟩
  · refine (hseg k).symm ▸ ?_
    split
    case isTrue hk => exact hk ▸ Nat.le_add_right _ _
    case isFalse => exact le_rfl

/-! ## A clear begins -/

/-- With the patterns over it UNDEFINED, a segment's words are no pattern's (R73). -/
theorem undefineOver (h : st.Lawful) {g : Fin 64} (hfrozen : st.coveredBy g (fun e => e.frozen) = false)
    (hpinned : st.coveredBy g (fun e => decide (0 < e.uses)) = false) : (st.undefineOver g).Lawful where
  words := h.words
  segs := h.segs
  clears := h.clears
  patterns p := by
    rw [Store.coveredBy_eq_false] at hfrozen hpinned
    rw [Store.pattern_undefineOver]
    split
    case isTrue hcovers =>
      exact Store.patternLawful_of_undefined rfl (hfrozen p hcovers)
        (Nat.eq_zero_of_not_pos (of_decide_eq_false (hpinned p hcovers)))
    case isFalse => exact h.patterns p

/-- A segment under no pattern enters the clear machine: it is cleared at once when the machine is idle, and joins the
Clear Queue otherwise (R69, R73). -/
theorem beginClear (h : st.Lawful) {g : Fin 64} (hmode : st.mode = .normal) (hbusy : (st.seg g).busy = false)
    (huncovered : ∀ p, (st.pattern p).covers g = false)
    (hplace : st.clearing = none ∨ st.clearQueue.length < Config.clearCapacity) : (st.beginClear g).Lawful := by
  obtain ⟨hmem, hmode', hpatterns⟩ := st.beginClear_frame g
  refine h.of_segs (hmem ▸ h.words) (fun k => ?_) (clearLawful_beginClear hmode hbusy hplace h.clears) hpatterns
    fun p k hcovers => ?_
  · rw [Store.seg_beginClear]
    split
    · split <;> rfl
    · exact h.segs k
  · have hk : g ≠ k := by
      rintro rfl
      rw [huncovered p] at hcovers
      cases hcovers
    rw [Store.seg_beginClear, if_neg hk]

/-! ## A clear ends -/

/-- The segment cleared becomes BLANK, and the oldest queued one is cleared next (R69, R74). -/
theorem endClear (h : st.Lawful) {g : Fin 64} (hg : st.clearing = some g) : ((st.finishClear g).nextClear).Lawful := by
  obtain ⟨hmem, -, hpatterns⟩ := (st.finishClear g).nextClear_frame
  obtain ⟨-, -, hqueue, hclearing, -⟩ := (Store.clearLawful_of_normal (h.clears.mode_eq_normal hg)).mp h.clears
  have hempty : (st.seg g).fill = 0 := by
    have hstate := (hclearing g).mp hg
    exact (h.segs g).fill_eq_zero (by simp [hstate]) (by simp [hstate])
  refine h.of_segs (hmem ▸ Memory.clearSegment_wf _ h.words) (fun k => ?_) (h.clears.endClear hg) hpatterns
    fun p k _ => ?_
  · obtain hk | ⟨-, hk⟩ := (st.finishClear g).seg_nextClear k
    · rw [hk, Store.seg_finishClear]
      split
      · rfl
      · exact h.segs k
    · rw [hk]
      rfl
  · obtain hk | ⟨hmem, hk⟩ := (st.finishClear g).seg_nextClear k
    · rw [hk, Store.seg_finishClear]
      split
      case isTrue hgk => rw [← hgk, hempty]
      case isFalse => exact le_rfl
    · have hstate := (hqueue k).mp hmem
      rw [(h.segs k).fill_eq_zero (by simp [hstate]) (by simp [hstate])]
      exact Nat.zero_le _

/-! ## A wipe begins and ends -/

/-- A wipe needs patterns out of use, and leaves none READY or frozen (R76). -/
theorem beginWipe (h : st.Lawful) (huses : ∀ p, (st.pattern p).uses = 0) : st.beginWipe.Lawful where
  words := h.words
  segs g := by
    rw [Store.seg_beginWipe]
    rfl
  clears := by
    have hclearing : ∀ g, (st.beginWipe.seg g).state = .clearing := fun g => by rw [Store.seg_beginWipe]
    refine (Store.clearLawful_of_wiping rfl).mpr ⟨List.nodup_nil, Nat.zero_le _, fun g => ?_, rfl, rfl, hclearing⟩
    rw [hclearing g]
    exact ⟨nofun, nofun⟩
  patterns p := by
    rw [Store.pattern_beginWipe]
    exact Store.patternLawful_of_undefined rfl rfl (huses p)

/-- While WIPING no segment holds a word (R76), so its end loses none (R77). -/
theorem endWipe (h : st.Lawful) (hmode : st.mode = .wiping) : st.finishWipe.Lawful := by
  obtain ⟨-, -, -, -, -, hwiping⟩ := (Store.clearLawful_of_wiping hmode).mp h.clears
  refine h.of_segs rfl (fun g => ?_) (Store.clearLawful_of_idle rfl rfl rfl fun g => ?_) rfl fun p g _ => ?_
  · rw [Store.seg_finishWipe]
    rfl
  · rw [Store.seg_finishWipe]
    exact ⟨nofun, nofun⟩
  · rw [(h.segs g).fill_eq_zero (by simp [hwiping g]) (by simp [hwiping g])]
    exact Nat.zero_le _

/-! ## Resets -/

/-- An engine reset keeps the loaded segments and puts every other one in FAULTED (R85). -/
theorem engineReset (h : st.Lawful) : st.engineReset.Lawful := by
  have hsegs : ∀ g, (st.engineReset.seg g).lawful ∧ (st.engineReset.seg g).fill = (st.seg g).fill
      ∧ (st.engineReset.seg g).state ≠ .clearQueued ∧ (st.engineReset.seg g).state ≠ .clearing := fun g => by
    rw [Store.seg_engineReset]
    split
    case isTrue hmode =>
      obtain ⟨-, -, -, -, -, hwiping⟩ := (Store.clearLawful_of_wiping hmode).mp h.clears
      exact ⟨rfl, ((h.segs g).fill_eq_zero (by simp [hwiping g]) (by simp [hwiping g])).symm, nofun, nofun⟩
    case isFalse => exact (h.segs g).engineReset
  refine ⟨h.words, fun g => (hsegs g).1, Store.clearLawful_of_idle rfl rfl rfl fun g => (hsegs g).2.2, fun p => ?_⟩
  rw [Store.pattern_engineReset]
  obtain ⟨hready, hfrozen, -⟩ := h.patterns p
  exact Store.patternLawful.of_fill (st := st) ⟨hready, hfrozen, nofun⟩ fun g _ => (hsegs g).2.1.ge

end Store.Lawful

/-- Every change of the store keeps its law. -/
theorem StoreChange.lawful (hc : StoreChange st st') (h : st.Lawful) : st'.Lawful := by
  cases hc with
  | kept => exact h
  | used k hready =>
    refine h.use k fun p hp _ => ?_
    subst hp
    exact hready
  | freed k =>
    refine h.use k fun p _ hpos => ?_
    obtain ⟨-, -, huses⟩ := h.patterns p
    exact huses (Nat.lt_of_lt_of_le hpos (Nat.sub_le _ _))
  | loaded g data hbusy _ hfit => exact h.load hbusy hfit
  | clearBegun g hmode hbusy hfrozen hpinned hplace =>
    exact (h.undefineOver hfrozen hpinned).beginClear hmode hbusy (Store.uncovered_undefineOver st g) hplace
  | clearEnded hg => exact h.endClear hg
  | wipeBegun huses => exact h.beginWipe huses
  | wipeEnded hmode => exact h.endWipe hmode
  | defined p first len hlow hhigh hspan => exact h.define p first hlow hhigh hspan
  | undefined p hfrozen huses => exact h.setPattern p (Store.patternLawful_of_undefined rfl hfrozen huses)
  | frozen p hready =>
    obtain ⟨hwords, -, -⟩ := h.patterns p
    exact h.setPattern p ⟨hwords, fun _ => hready, fun _ => hready⟩
  | engineReset => exact h.engineReset
  | hardwareReset => exact (storeLaw_iff State.reset).mp storeLaw_reset

/-- Settles O57: every change of the store keeps its law. -/
theorem everyStepKeepsStoreLaw : Obligations.EveryStepKeepsStoreLaw := by
  unfold Obligations.EveryStepKeepsStoreLaw
  intro s t hs h
  exact (storeLaw_iff t).mpr (step_keeps_of_storeChange StoreChange.lawful ((storeLaw_iff s).mp hs) h)

end Sys2Proof.Machine
end

section
/-! SUPPORT. PRBS registers bit by bit (R56, R57), and the words of a stream (R57 to R61). -/

namespace Sys2Proof.Machine

/-! ## One step of a register -/

variable (p : Prbs)

theorem Prbs.tap_bounds : 1 ≤ p.tap ∧ p.tap < p.stages ∧ p.stages < 32 := by
  cases p <;> decide

theorem Prbs.getLsbD_ones (i : Nat) : p.ones.getLsbD i = decide (i < p.stages) := by
  obtain ⟨-, -, hstages⟩ := p.tap_bounds
  rw [Prbs.ones, BitVec.getLsbD_ofNat, Nat.testBit_two_pow_sub_one]
  by_cases hi : i < p.stages
  · simp [hi, hi.trans hstages]
  · simp [hi]

/-- A step: stage 1 takes the new bit, every other stage the one below it (R56). -/
theorem Prbs.getLsbD_step (st : Word) (i : Nat) :
    (p.step st).getLsbD i =
      (decide (i < p.stages) && if i = 0 then p.nextBit st else st.getLsbD (i - 1)) := by
  obtain ⟨-, -, hstages⟩ := p.tap_bounds
  rw [Prbs.step, BitVec.getLsbD_and, Prbs.getLsbD_ones, Bool.and_comm]
  by_cases hi : i < p.stages
  · have hwidth : i < 32 := hi.trans hstages
    cases i with
    | zero => simp [hi]
    | succ i => simp [hi, hwidth, BitVec.getLsbD_eq_getElem (x := st) (Nat.lt_of_succ_lt hwidth)]
  · simp [hi]

/-- A register holds zeros above bit n − 1 (R55). -/
theorem Prbs.getLsbD_of_masked {st : Word} (h : st &&& p.ones = st) {i : Nat} (hi : p.stages ≤ i) :
    st.getLsbD i = false := by
  rw [← h, BitVec.getLsbD_and, Prbs.getLsbD_ones, decide_eq_false (Nat.not_lt.mpr hi), Bool.and_false]

theorem Prbs.step_masked (st : Word) : p.step st &&& p.ones = p.step st := patternView_step p st

theorem Prbs.step_zero : p.step 0 = 0 := by
  apply BitVec.eq_of_getLsbD_eq
  intro i _
  rw [Prbs.getLsbD_step]
  simp [Prbs.nextBit]

/-- A register other than 0 never steps to 0: the stages below n move up, and with all of them 0 stage n is the new bit
(R56). -/
theorem Prbs.step_ne_zero {st : Word} (hne : st ≠ 0) (hmask : st &&& p.ones = st) : p.step st ≠ 0 := by
  obtain ⟨htap, hlast, -⟩ := p.tap_bounds
  intro hzero
  have hbit : ∀ i, (decide (i < p.stages) && if i = 0 then p.nextBit st else st.getLsbD (i - 1)) = false := fun i => by
    rw [← Prbs.getLsbD_step, hzero]
    exact BitVec.getLsbD_zero
  have hlow : ∀ i, i + 1 < p.stages → st.getLsbD i = false := fun i hi => by simpa [hi] using hbit (i + 1)
  have hnew : p.nextBit st = false := by simpa [Nat.zero_lt_of_lt hlast] using hbit 0
  have hhigh : st.getLsbD (p.stages - 1) = false := by
    rw [Prbs.nextBit, hlow (p.tap - 1) (by omega), Bool.xor_false] at hnew
    exact hnew
  refine hne (BitVec.eq_of_getLsbD_eq fun i _ => .trans ?_ BitVec.getLsbD_zero.symm)
  by_cases hi : i + 1 < p.stages
  · exact hlow i hi
  · by_cases hi' : i = p.stages - 1
    · rw [hi']
      exact hhigh
    · exact p.getLsbD_of_masked hmask (by omega)

/-! ## A register's run -/

theorem Prbs.leap_masked {st : Word} (hmask : st &&& p.ones = st) (m : Nat) : p.leap m st &&& p.ones = p.leap m st := by
  cases m with
  | zero => exact hmask
  | succ m =>
    rw [Prbs.leap_succ]
    exact p.step_masked _

theorem Prbs.leap_ne_zero {st : Word} (hne : st ≠ 0) (hmask : st &&& p.ones = st) (m : Nat) : p.leap m st ≠ 0 := by
  induction m with
  | zero => exact hne
  | succ m ih =>
    rw [Prbs.leap_succ]
    exact p.step_ne_zero ih (p.leap_masked hmask m)

/-- Stage j of a register holds the output bit of j steps before (R56). -/
theorem Prbs.getLsbD_leap (st : Word) {i j : Nat} (hj : 1 ≤ j) (hstages : j ≤ p.stages) (hi : j ≤ i) :
    (p.leap i st).getLsbD (j - 1) = p.nextBit (p.leap (i - j) st) := by
  induction j, hj using Nat.le_induction generalizing i with
  | base =>
    obtain ⟨i, rfl⟩ := Nat.exists_eq_add_of_le' hi
    rw [Prbs.leap_succ, Prbs.getLsbD_step]
    simp [Nat.lt_of_lt_of_le Nat.zero_lt_one hstages]
  | succ j hj ih =>
    obtain ⟨i, rfl⟩ := Nat.exists_eq_add_of_le' (Nat.one_le_of_lt hi)
    rw [Prbs.leap_succ, Prbs.getLsbD_step, Nat.add_sub_cancel, if_neg (Nat.one_le_iff_ne_zero.mp hj),
      decide_eq_true (Nat.lt_of_succ_le hstages), Bool.true_and,
      ih (Nat.le_of_succ_le hstages) (Nat.le_of_succ_le_succ hi), Nat.add_sub_add_right]

/-- The recurrence of a PRBS: each output bit is the exclusive-or of the bits n and k before it (R56). -/
theorem Prbs.nextBit_leap (st : Word) {i : Nat} (hi : p.stages ≤ i) :
    p.nextBit (p.leap i st) =
      (p.nextBit (p.leap (i - p.stages) st) ^^ p.nextBit (p.leap (i - p.tap) st)) := by
  obtain ⟨htap, hlast, -⟩ := p.tap_bounds
  rw [Prbs.nextBit, p.getLsbD_leap st (by omega) le_rfl hi, p.getLsbD_leap st htap hlast.le (by omega)]

/-- Output bit `i` of `m` steps, first bit highest (R57). -/
theorem Prbs.getLsbD_run (acc st : Word) {m i : Nat} (hm : m ≤ 32) (hi : i < m) :
    (p.run m acc st).1.getLsbD (m - 1 - i) = p.nextBit (p.leap i st) := (p.run_spec m acc st hm).1 i hi

theorem Prbs.run_snd (acc st : Word) {m : Nat} (hm : m ≤ 32) : (p.run m acc st).2 = p.leap m st :=
  (p.run_spec m acc st hm).2.2

/-! ## Words -/

variable (s : Store) (inv : Bool)

@[simp] theorem invertIf_invertIf (w : Word) : invertIf inv (invertIf inv w) = w := by
  cases inv <;> simp [invertIf]

theorem nextWord_prbs (st : Word) :
    nextWord s (.prbs p) inv st = (invertIf inv (p.run 32 0 st).1, p.leap 32 st) :=
  Prod.ext rfl (p.run_snd 0 st le_rfl)

theorem nextWord_fixed (w st : Word) : nextWord s (.fixed w) inv st = (invertIf inv w, st) := rfl

/-- The USER position after one word, in a pattern of at most 16,384 words (R60). -/
theorem nextWord_user_position {p : Fin 32} {st : Word} (hlen : (s.pattern p).len ≤ 16384)
    (hpos : st.toNat < (s.pattern p).len) :
    (nextWord s (.user p) inv st).2.toNat = (st.toNat + 1) % (s.pattern p).len := by
  have hlt := Nat.mod_lt (st.toNat + 1) (Nat.zero_lt_of_lt hpos)
  show (BitVec.ofNat 32 ((st.toNat + 1) % (s.pattern p).len)).toNat = _
  rw [BitVec.toNat_ofNat, Nat.mod_eq_of_lt (by omega)]

theorem takeWords_succ (kind : PatternKind) (n : Nat) (st : Word) :
    takeWords s kind inv (n + 1) st =
      ((nextWord s kind inv st).1 :: (takeWords s kind inv n (nextWord s kind inv st).2).1,
        (takeWords s kind inv n (nextWord s kind inv st).2).2) := rfl

end Sys2Proof.Machine

/-! The model has a function of this name, so the theorem stands in a namespace of its own. -/

namespace Sys2Proof.Settled

open Sys2Proof.Machine

/-- Settles O17: the polynomials as listed, a register's bits by its recurrence, and each kind's words. -/
theorem patternWords : Obligations.PatternWords := by
  unfold Obligations.PatternWords
  refine ⟨rfl, fun _ => rfl, fun s kind inv st => ⟨rfl, fun n => takeWords_succ s inv kind n st⟩, fun p st => ?_,
    fun s p inv st => nextWord_prbs p s inv st, fun s w inv st => nextWord_fixed s inv w st,
    fun s p inv st hlen hpos => ⟨rfl, ?_⟩⟩
  · exact ⟨fun i hi => p.nextBit_leap st hi, fun i j hj hstages hi => p.getLsbD_leap st hj hstages hi,
      fun i hi => p.getLsbD_run 0 st le_rfl hi, p.run_snd 0 st le_rfl, p.step_zero,
      fun hne hmask => ⟨p.step_ne_zero hne hmask, p.step_masked st⟩⟩
  · rw [nextWord_user_position s inv hlen hpos]
    split
    case isTrue hlast => rw [hlast, Nat.mod_self]
    case isFalse hlast => exact Nat.mod_eq_of_lt (by omega)

end Sys2Proof.Settled
end

section
/-! SUPPORT. Leaping, comparing and seeding (R63 to R66), each by the words the stream produces. -/

namespace Sys2Proof.Machine

variable (s : Store) (inv : Bool)

/-! ## The leap (R66) -/

/-- A USER state is a position of its pattern, which is no longer than the store (R60). -/
def Store.positioned (s : Store) (kind : PatternKind) (st : Word) : Prop :=
  ∀ p, kind = .user p → (s.pattern p).len ≤ 16384 ∧ st.toNat < (s.pattern p).len

variable {s} {kind : PatternKind} {st : Word}

theorem Store.positioned.nextWord (h : s.positioned kind st) : s.positioned kind (nextWord s kind inv st).2 := by
  intro p hp
  subst hp
  obtain ⟨hlen, hpos⟩ := h p rfl
  rw [nextWord_user_position s inv hlen hpos]
  exact ⟨hlen, Nat.mod_lt _ (Nat.zero_lt_of_lt hpos)⟩

theorem leapWords_zero (h : s.positioned kind st) : leapWords s kind 0 st = st := by
  cases kind with
  | prbs p => rfl
  | fixed w => rfl
  | user p =>
    obtain ⟨-, hpos⟩ := h p rfl
    show BitVec.ofNat 32 ((st.toNat + 0) % (s.pattern p).len) = st
    rw [Nat.add_zero, Nat.mod_eq_of_lt hpos, BitVec.ofNat_toNat, BitVec.setWidth_eq]

/-- A leap of one word more leaps from the state past the first (R66). -/
theorem leapWords_succ (h : s.positioned kind st) (n : Nat) :
    leapWords s kind (n + 1) st = leapWords s kind n (nextWord s kind inv st).2 := by
  cases kind with
  | prbs p =>
    rw [nextWord_prbs]
    show p.leap (32 * (n + 1)) st = p.leap (32 * n) (p.leap 32 st)
    rw [← Prbs.leap_add, Nat.mul_succ, Nat.add_comm]
  | fixed w => rfl
  | user p =>
    obtain ⟨hlen, hpos⟩ := h p rfl
    show BitVec.ofNat 32 ((st.toNat + (n + 1)) % (s.pattern p).len)
      = BitVec.ofNat 32 (((nextWord s (.user p) inv st).2.toNat + n) % (s.pattern p).len)
    rw [nextWord_user_position s inv hlen hpos, Nat.mod_add_mod, Nat.add_assoc, Nat.add_comm 1 n]

/-- A leap reaches the state that producing the words reaches (R66). -/
theorem leapWords_eq_takeWords (h : s.positioned kind st) (n : Nat) :
    leapWords s kind n st = (takeWords s kind inv n st).2 := by
  induction n generalizing st with
  | zero => exact leapWords_zero h
  | succ n ih => rw [leapWords_succ inv h, ih (h.nextWord inv), takeWords_succ]

/-! ## The compare (R65) -/

/-- The bit errors of received words against predicted ones, word by word (R65). -/
def bitErrors (predicted received : List Word) : List Nat :=
  List.zipWith (fun a b => onesCount (a ^^^ b)) predicted received

variable (s) (kind)

/-- A compare's errors are those against the words the stream would produce, and its state is the one past them
(R65). -/
theorem compareWords_eq (ws : List Word) (st : Word) :
    compareWords s kind inv ws st =
      (bitErrors (takeWords s kind inv ws.length st).1 ws, (takeWords s kind inv ws.length st).2) := by
  induction ws generalizing st with
  | nil => rfl
  | cons w ws ih =>
    rw [compareWords, ih, List.length_cons, takeWords_succ]
    rfl

/-- A word has at most 32 bit errors (R65). -/
theorem mem_compareWords_le (ws : List Word) (st : Word) {e : Nat}
    (he : e ∈ (compareWords s kind inv ws st).1) : e ≤ 32 := by
  induction ws generalizing st with
  | nil => cases he
  | cons w ws ih =>
    obtain rfl | he := List.mem_cons.mp he
    · exact onesCount_le _
    · exact ih _ he

/-- Settles O18: the leap word by word, the ones counted, and the compare word by word. -/
theorem leapAndCompare : Obligations.LeapAndCompare := by
  unfold Obligations.LeapAndCompare
  refine ⟨fun s kind inv n st h => leapWords_eq_takeWords inv h n, fun x => List.countP_eq_length_filter,
    fun s kind inv ws st => ⟨?_, ?_, fun e => mem_compareWords_le s inv kind ws st⟩⟩
  · rw [compareWords_eq]
  · rw [compareWords_eq]
    rfl

/-! ## Seeding by each kind (R63 to R65) -/

/-- A count over the numbers below `m` in falling order. -/
theorem countP_range_reflect (f : Nat → Bool) (m : Nat) :
    (List.range m).countP (fun i => f (m - 1 - i)) = (List.range m).countP f := by
  have hreverse : (List.range m).map (fun i => m - 1 - i) = (List.range m).reverse := by
    simp [List.range_eq_range', List.reverse_range']
  rw [← List.countP_reverse (p := f), ← hreverse, List.countP_map]
  rfl

/-- A word's ones after a shift that drops its `n` first bits, the others counted first bit first. -/
theorem onesCount_shiftLeft (y : Word) {n : Nat} (hn : n ≤ 32) :
    onesCount (y <<< n) = (List.range (32 - n)).countP (fun i => y.getLsbD (31 - n - i)) := by
  have hdropped : (List.range n).countP (fun i => (y <<< n).getLsbD i) = 0 := by
    rw [List.countP_eq_zero]
    intro i hi
    simp [BitVec.getLsbD_shiftLeft, List.mem_range.mp hi]
  have hkept : ((List.range (32 - n)).map (n + ·)).countP (fun i => (y <<< n).getLsbD i)
      = (List.range (32 - n)).countP (fun i => y.getLsbD i) := by
    rw [List.countP_map]
    refine List.countP_congr fun i hi => ?_
    have hi := List.mem_range.mp hi
    simp [BitVec.getLsbD_shiftLeft, show n + i < 32 by omega]
  have hsplit : List.range 32 = List.range n ++ (List.range (32 - n)).map (n + ·) := by
    rw [← List.range_add, Nat.add_sub_cancel' hn]
  rw [onesCount, hsplit, List.countP_append, hdropped, hkept, Nat.zero_add, ← countP_range_reflect,
    Nat.sub_right_comm 32]

/-- The seeded register: stage j is the pattern bit of n − j places after the first (R63). -/
theorem Prbs.getLsbD_seed (p : Prbs) (x : Word) {j : Nat} (hj : 1 ≤ j) (hstages : j ≤ p.stages) :
    (x >>> (32 - p.stages)).getLsbD (j - 1) = x.getLsbD (31 - (p.stages - j)) := by
  obtain ⟨-, -, hlt⟩ := p.tap_bounds
  rw [BitVec.getLsbD_ushiftRight]
  congr 1
  omega

theorem seedFrame_prbs_of_zero (p : Prbs) {offset w : Word} {ws : List Word} (h : p.seed inv w = 0) :
    seedFrame s (.prbs p) inv offset (w :: ws) = none := if_pos h

/-- A PRBS seeding frame's errors, in the rest of word 0 bit by bit and in the words after it, and the state it ends in
(R63). -/
theorem seedFrame_prbs_of_ne (p : Prbs) {offset w : Word} {ws : List Word} (h : p.seed inv w ≠ 0) :
    seedFrame s (.prbs p) inv offset (w :: ws) =
      some
        ((List.range (32 - p.stages)).countP
            (fun i => p.nextBit (p.leap i (p.seed inv w)) != (invertIf inv w).getLsbD (31 - p.stages - i))
          + (bitErrors (takeWords s (.prbs p) inv ws.length (p.leap (32 - p.stages) (p.seed inv w))).1 ws).sum,
          (takeWords s (.prbs p) inv ws.length (p.leap (32 - p.stages) (p.seed inv w))).2) := by
  obtain ⟨-, -, hlt⟩ := p.tap_bounds
  have hrest : onesCount (((p.run (32 - p.stages) 0 (p.seed inv w)).1 ^^^ invertIf inv w) <<< p.stages)
      = (List.range (32 - p.stages)).countP
          (fun i => p.nextBit (p.leap i (p.seed inv w)) != (invertIf inv w).getLsbD (31 - p.stages - i)) := by
    rw [onesCount_shiftLeft _ hlt.le]
    refine List.countP_congr fun i hi => ?_
    have hi := List.mem_range.mp hi
    rw [BitVec.getLsbD_xor, ← p.getLsbD_run 0 _ (Nat.sub_le 32 p.stages) hi, Nat.sub_right_comm 32]
  rw [← hrest, ← p.run_snd 0 _ (Nat.sub_le 32 p.stages)]
  show seedPrbs s p inv (w :: ws) = _
  simp only [seedPrbs, if_neg h, compareWords_eq]

/-- A FIXED stream's words are one word, and its state stays (R59). -/
theorem takeWords_fixed (v : Word) (n : Nat) (st : Word) :
    takeWords s (.fixed v) inv n st = (List.replicate n (invertIf inv v), st) := by
  induction n with
  | zero => rfl
  | succ n ih => rw [takeWords_succ, nextWord_fixed, ih, List.replicate_succ]

theorem bitErrors_replicate (a : Word) (ws : List Word) :
    bitErrors (List.replicate ws.length a) ws = ws.map (fun b => onesCount (a ^^^ b)) := by
  induction ws with
  | nil => rfl
  | cons w ws ih =>
    rw [List.map_cons, ← ih]
    rfl

theorem seedFrame_fixed (v offset : Word) (ws : List Word) :
    seedFrame s (.fixed v) inv offset ws = some ((ws.map (fun b => onesCount (invertIf inv v ^^^ b))).sum, 0) := by
  show some ((compareWords s (.fixed v) inv ws 0).1.sum, (compareWords s (.fixed v) inv ws 0).2) = _
  rw [compareWords_eq, takeWords_fixed, bitErrors_replicate]

theorem seedFrame_user (p : Fin 32) (offset : Word) (ws : List Word) :
    seedFrame s (.user p) inv offset ws =
      some ((bitErrors (takeWords s (.user p) inv ws.length offset).1 ws).sum,
        (takeWords s (.user p) inv ws.length offset).2) := by
  show some ((compareWords s (.user p) inv ws offset).1.sum, (compareWords s (.user p) inv ws offset).2) = _
  rw [compareWords_eq]

/-- The USER position past `n` words (R60, R66). -/
theorem takeWords_user_position {p : Fin 32} (hlen : (s.pattern p).len ≤ 16384) (hpos : st.toNat < (s.pattern p).len)
    (n : Nat) : (takeWords s (.user p) inv n st).2.toNat = (st.toNat + n) % (s.pattern p).len := by
  have hmod := Nat.mod_lt (st.toNat + n) (Nat.zero_lt_of_lt hpos)
  have hpositioned : s.positioned (.user p) st := fun q hq => by
    cases hq
    exact ⟨hlen, hpos⟩
  rw [← leapWords_eq_takeWords inv hpositioned]
  show (BitVec.ofNat 32 ((st.toNat + n) % (s.pattern p).len)).toNat = _
  rw [BitVec.toNat_ofNat, Nat.mod_eq_of_lt (by omega)]

/-- Settles O60, kind by kind. -/
theorem seedingFramesOfEveryKind : Obligations.SeedingFramesOfEveryKind := by
  unfold Obligations.SeedingFramesOfEveryKind
  exact ⟨fun s p inv offset w ws => ⟨fun j => p.getLsbD_seed _, seedFrame_prbs_of_zero s inv p,
      seedFrame_prbs_of_ne s inv p⟩,
    fun s v inv offset ws => seedFrame_fixed s inv v offset ws,
    fun s p inv offset ws => ⟨seedFrame_user s inv p offset ws,
      fun hlen hpos => takeWords_user_position s inv hlen hpos ws.length⟩⟩

/-! ## A clean frame (R63) -/

/-- The first n bits of a generated word seed the generator's register of n steps later (R57, R63). -/
theorem Prbs.seed_nextWord (p : Prbs) {st : Word} (hmask : st &&& p.ones = st) :
    p.seed inv (nextWord s (.prbs p) inv st).1 = p.leap p.stages st := by
  obtain ⟨-, -, hlt⟩ := p.tap_bounds
  rw [nextWord_prbs, Prbs.seed, invertIf_invertIf]
  refine BitVec.eq_of_getLsbD_eq fun i hi => ?_
  by_cases hstage : i < p.stages
  · have hseed := p.getLsbD_seed (p.run 32 0 st).1 (Nat.le_add_left 1 i) hstage
    rw [Nat.add_sub_cancel] at hseed
    rw [hseed, p.getLsbD_run 0 st le_rfl (by omega), ← p.getLsbD_leap st (Nat.le_add_left 1 i) hstage hstage,
      Nat.add_sub_cancel]
  · rw [p.getLsbD_of_masked (p.leap_masked hmask _) (Nat.le_of_not_lt hstage), BitVec.getLsbD_ushiftRight]
    exact BitVec.getLsbD_of_ge _ _ (by omega)

theorem bitErrors_self_sum (ws : List Word) : (bitErrors ws ws).sum = 0 := by
  have hword : ∀ a : Word, onesCount (a ^^^ a) = 0 := fun a => by
    rw [BitVec.xor_self]
    decide
  refine List.sum_eq_zero fun n hn => ?_
  rw [bitErrors, List.zipWith_self] at hn
  obtain ⟨a, -, rfl⟩ := List.mem_map.mp hn
  exact hword a

/-- Seeding from a generated frame finds no bit error and ends in the generator's own state (R63). -/
theorem seedFrame_takeWords (p : Prbs) {offset : Word} (n : Nat) (hne : st ≠ 0) (hmask : st &&& p.ones = st) :
    seedFrame s (.prbs p) inv offset (takeWords s (.prbs p) inv (n + 1) st).1 =
      some (0, (takeWords s (.prbs p) inv (n + 1) st).2) := by
  obtain ⟨-, -, hlt⟩ := p.tap_bounds
  have hseed := p.seed_nextWord s inv hmask
  have hstate : p.leap (32 - p.stages) (p.leap p.stages st) = (nextWord s (.prbs p) inv st).2 := by
    rw [← Prbs.leap_add, Nat.add_sub_cancel' hlt.le, nextWord_prbs]
  have hclean : (List.range (32 - p.stages)).countP (fun i =>
      p.nextBit (p.leap i (p.leap p.stages st)) !=
        (invertIf inv (nextWord s (.prbs p) inv st).1).getLsbD (31 - p.stages - i)) = 0 := by
    rw [nextWord_prbs, invertIf_invertIf, List.countP_eq_zero]
    intro i hi
    have hi := List.mem_range.mp hi
    rw [← Prbs.leap_add, ← p.getLsbD_run 0 st le_rfl (by omega), show 32 - 1 = 31 from rfl, ← Nat.sub_sub,
      bne_self_eq_false]
    exact Bool.false_ne_true
  rw [takeWords_succ, seedFrame_prbs_of_ne s inv p (hseed ▸ p.leap_ne_zero hne hmask _), hseed, hstate, hclean,
    takeWords_length, bitErrors_self_sum]

/-- Settles O19: a generated frame seeds the generator's own state, and a register of 0 seeds nothing. -/
theorem cleanFrameSeedsTheGeneratorsState : Obligations.CleanFrameSeedsTheGeneratorsState := by
  unfold Obligations.CleanFrameSeedsTheGeneratorsState
  exact fun s p inv offset n st => ⟨seedFrame_takeWords s inv p n, fun w ws => seedFrame_prbs_of_zero s inv p⟩

end Sys2Proof.Machine
end

section
/-! SUPPORT. A delivery at a checker in LOCKED or STALE (R67, R117 to R122). -/

namespace Sys2Proof.Machine

variable {cfg : StreamConfig} {st : Store} {o : Bool} {f : Frame} {c : Checker} {d : Nat}

/-! ## The cases of a delivery -/

/-- A delivery in LOCKED or STALE, its frames-received count made (R109, R118). -/
theorem takeDelivery_of_lock (h : c.sync = .locked ∨ c.sync = .stale) :
    takeDelivery cfg st o f c = takeLocked cfg st o f { c.tally o { received := 1 } with silence := 0 } := by
  obtain h | h := h <;> rw [takeDelivery, h]

theorem takeLocked_of_late (h : seqClass cfg.leapLimit (ahead f c) = .late) :
    takeLocked cfg st o f c = (c.tally o { late := 1 }, []) := by
  rw [takeLocked, h]

theorem takeLocked_of_jump (h : seqClass cfg.leapLimit (ahead f c) = .jump) :
    takeLocked cfg st o f c = ((takeJump cfg st o f c).1, .lockLost :: (takeJump cfg st o f c).2) := by
  rw [takeLocked, h]

/-- An in-sequence frame with a length mismatch (R121). -/
theorem takeLocked_of_mismatch (h : seqClass cfg.leapLimit (ahead f c) = .inSequence d)
    (hlength : lengthMismatch cfg st f = true) :
    takeLocked cfg st o f c = settleLock cfg o (lostLength cfg st o d f c) := by
  rw [takeLocked, h]
  exact if_pos hlength

/-- An in-sequence USER frame off its position (R67). -/
theorem takeLocked_of_misaligned (h : seqClass cfg.leapLimit (ahead f c) = .inSequence d)
    (hlength : ¬ lengthMismatch cfg st f = true) (hslip : misaligned cfg f (leapGap cfg st o d c) = true) :
    takeLocked cfg st o f c = alignmentSlip cfg st o f (leapGap cfg st o d c) := by
  rw [takeLocked, h]
  exact (if_neg hlength).trans (if_pos hslip)

/-- An in-sequence frame that is compared (R117, R118). -/
theorem takeLocked_of_aligned (h : seqClass cfg.leapLimit (ahead f c) = .inSequence d)
    (hlength : ¬ lengthMismatch cfg st f = true) (hslip : ¬ misaligned cfg f (leapGap cfg st o d c) = true) :
    takeLocked cfg st o f c = settleLock cfg o (lockedCompare cfg st o f (leapGap cfg st o d c)) := by
  rw [takeLocked, h]
  exact (if_neg hlength).trans (if_neg hslip)

/-! ## The parts of an in-sequence frame -/

/-- A gap leaves the tick's bit errors and the bad run (R118). -/
theorem leapGap_tickErrors_badRun :
    (leapGap cfg st o d c).tickErrors = c.tickErrors ∧ (leapGap cfg st o d c).badRun = c.badRun := by
  by_cases hd : d = 0
  · rw [hd]
    exact ⟨rfl, rfl⟩
  · rw [leapGap_of_ne hd]
    exact ⟨Checker.closeBurst_tickErrors _ o, Checker.closeBurst_badRun _ o⟩

/-- A lost-length frame: the frames missing and its mismatch are counted, the burst closes, the pattern leaps over
them and it, and the bad run grows (R121). -/
theorem lostLength_eq :
    lostLength cfg st o d f c =
      { (c.tally o { lost := d, mismatches := 1 }).closeBurst o with
        pat := leapWords st cfg.kind ((1 + d) * cfg.payloadLen) c.pat
        expected := f.sequence + 1
        badRun := c.badRun + 1 } := by
  simp only [lostLength, Checker.closeBurst_pat, Checker.closeBurst_badRun, Checker.tally_pat, Checker.tally_badRun]

/-- A compare under the LOCKED rules, of as many words as the configured length: its counts, its bad run, then the burst
monitor word by word (R117). -/
theorem lockedCompare_eq (h : f.words.length = cfg.payloadLen) :
    lockedCompare cfg st o f c =
      let r := compareWords st cfg.kind cfg.invert f.words c.pat
      let errs := r.1.sum
      let bad := decide (cfg.badThreshold < errs)
      r.1.foldl (fun x e => x.burstWord o e)
        { c.tally o
            { bits := 32 * cfg.payloadLen, errs := errs, compared := 1, errored := one (decide (errs ≠ 0))
              bad := one bad } with
          tickErrors := satAdd c.tickErrors errs
          badRun := if bad then c.badRun + 1 else 0
          pat := r.2
          expected := f.sequence + 1 } := by
  have herrored : ∀ n : Nat, (n != 0) = decide (n ≠ 0) := fun n => by cases n <;> rfl
  simp only [lockedCompare, h, herrored]
  rfl

/-- The checker part in which the VERIFY rules judge a slipped frame: the resync counted, VERIFY entered, the pattern
state past the frame compared from its own offset (R67, R105). -/
def Checker.realigned (cfg : StreamConfig) (st : Store) (o : Bool) (f : Frame) (c : Checker) : Checker :=
  { Checker.enterVerify (c.tally o { resyncs := 1 }) with
    pat := (compareWords st cfg.kind cfg.invert f.words f.offset).2
    expected := f.sequence + 1 }

/-- An alignment slip whose frame is bad under the VERIFY rules (R67, R115). -/
theorem alignmentSlip_of_bad (h : cfg.badThreshold < (compareWords st cfg.kind cfg.invert f.words f.offset).1.sum) :
    alignmentSlip cfg st o f c =
      (((c.realigned cfg st o f).tally o { resyncs := 1 }).enterHunt, [.lockLost]) :=
  congrArg (fun r : Taken => (r.1, StreamKind.lockLost :: r.2))
    (verifyCompare_of_bad (c := Checker.enterVerify { c.tally o { resyncs := 1 } with pat := f.offset }) h)

/-- An alignment slip whose frame is good under the VERIFY rules: the first of those that verify (R67, R115). -/
theorem alignmentSlip_of_good (h : (compareWords st cfg.kind cfg.invert f.words f.offset).1.sum ≤ cfg.badThreshold) :
    alignmentSlip cfg st o f c =
      (((c.realigned cfg st o f).verified cfg).1, .lockLost :: ((c.realigned cfg st o f).verified cfg).2) :=
  congrArg (fun r : Taken => (r.1, StreamKind.lockLost :: r.2))
    (verifyCompare_of_good (c := Checker.enterVerify { c.tally o { resyncs := 1 } with pat := f.offset }) h)

/-- Settles O22, class by class, and for a frame in sequence by whether it is whole and stands at its position. -/
theorem deliveryUnderLock : Obligations.DeliveryUnderLock := by
  unfold Obligations.DeliveryUnderLock
  intro cfg st o f c hlock c1 hunted settled outside whole leapt
  have htake : takeDelivery cfg st o f c = takeLocked cfg st o f c1 := takeDelivery_of_lock hlock
  have hmismatch : lengthMismatch cfg st f = true ↔ ¬ whole ∨ outside := lengthMismatch_iff cfg st f
  refine ⟨fun hlate => htake.trans (takeLocked_of_late hlate), fun hjump => htake.trans (takeLocked_of_jump hjump),
    fun d hseq => ?_⟩
  intro closed c2 slipped
  have hgap : leapGap cfg st o d c1 = c2 := by
    by_cases hd : d = 0
    · exact (if_pos hd).trans (if_pos hd).symm
    · exact (leapGap_of_ne hd).trans (if_neg hd).symm
  have hslip : misaligned cfg f (leapGap cfg st o d c1) = true ↔ slipped := hgap ▸ misaligned_iff cfg f c2
  have hlength : whole → ¬ outside → ¬ lengthMismatch cfg st f = true := fun hwhole hinside hm =>
    (hmismatch.mp hm).elim (fun hnot => hnot hwhole) hinside
  refine ⟨fun hlost => ?_, fun hwhole hinside haligned => ?_, fun hwhole hinside hslipped => ?_⟩
  · have hrun := htake.trans (takeLocked_of_mismatch hseq (hmismatch.mpr hlost))
    rw [hrun, lostLength_eq]
    rfl
  · have hrun := htake.trans
      (takeLocked_of_aligned hseq (hlength hwhole hinside) (fun h => haligned (hslip.mp h)))
    obtain ⟨hticks, hbadRun⟩ := leapGap_tickErrors_badRun (cfg := cfg) (st := st) (o := o) (d := d) (c := c1)
    rw [hgap] at hrun hticks hbadRun
    rw [hrun, lockedCompare_eq ((words_length hwhole.1).trans hwhole.2), hticks, hbadRun]
    rfl
  · have hrun := htake.trans (takeLocked_of_misaligned hseq (hlength hwhole hinside) (hslip.mpr hslipped))
    rw [hgap] at hrun
    refine ⟨fun hbad => ?_, fun hgood hverify => ?_, fun hgood hverify => ?_⟩
    · rw [hrun, alignmentSlip_of_bad hbad]
      rfl
    · rw [hrun, alignmentSlip_of_good hgood, Checker.verified_of_lt (c := c2.realigned cfg st o f) hverify]
      rfl
    · rw [hrun, alignmentSlip_of_good hgood, Checker.verified_of_le (c := c2.realigned cfg st o f) hverify.le]
      rfl

end Sys2Proof.Machine
end

section
/-! SUPPORT. The kinds of the streams and which of their sides are active (R9), which is what the use counts count (R83),
and what leaves them alone: raises, deliveries, ticks, gates, generators and lanes. -/

namespace Sys2Proof.Machine

/-! ## The sides of a stream -/

/-- What the use counts read of a stream: its kind, and whether its generator and its checker are active (R9, R83). -/
def Stream.sides (r : Stream) : PatternKind × Bool × Bool := (r.config.kind, r.gen.active, r.chk.active)

/-- The sides of every stream. -/
def State.sides (s : State) (i : Fin 256) : PatternKind × Bool × Bool := (s.stream i).sides

theorem Stream.sidesOn_congr {r r' : Stream} (h : r'.sides = r.sides) (p : Fin 32) : r'.sidesOn p = r.sidesOn p := by
  simp only [Stream.sides, Prod.mk.injEq] at h
  obtain ⟨hkind, hgen, hchk⟩ := h
  rw [Stream.sidesOn, Stream.sidesOn, hkind, hgen, hchk]

/-- The sides of the streams decide how many of them are on a pattern. -/
theorem State.sidesOn_congr {s t : State} (h : t.sides = s.sides) (p : Fin 32) : t.sidesOn p = s.sidesOn p :=
  congrArg List.sum (List.map_congr_left fun i _ => Stream.sidesOn_congr (congrFun h i) p)

theorem State.sides_congr {s t : State} (h : t.streams = s.streams) : t.sides = s.sides :=
  funext fun i => congrArg Stream.sides (State.stream_congr h i)

variable (s : State)

theorem State.setStream_sides {i : Fin 256} {r : Stream} (h : r.sides = (s.stream i).sides) :
    (s.setStream i r).sides = s.sides := by
  funext j
  rw [State.sides, State.stream_setStream]
  split
  case isTrue hij => rw [h, hij, State.sides]
  case isFalse => rfl

theorem State.setGen_sides {i : Fin 256} {g : Generator} (h : g.active = (s.stream i).gen.active) :
    (s.setGen i g).sides = s.sides :=
  s.setStream_sides (by rw [Stream.sides, Stream.sides, h])

theorem State.setChk_sides {i : Fin 256} {c : Checker} (h : c.active = (s.stream i).chk.active) :
    (s.setChk i c).sides = s.sides :=
  s.setStream_sides (by rw [Stream.sides, Stream.sides, h])

theorem State.mapStreams_sides {f : Stream → Stream} (h : ∀ r, (f r).sides = r.sides) :
    (s.mapStreams f).sides = s.sides := by
  funext i
  rw [State.sides, State.stream_mapStreams, h, State.sides]

/-- A fold of what leaves the sides alone leaves them alone. -/
theorem foldl_sides {α : Type} {f : State → α → State} (h : ∀ s a, (f s a).sides = s.sides) (l : List α) :
    (l.foldl f s).sides = s.sides := by
  induction l generalizing s with
  | nil => rfl
  | cons a l ih => exact (ih (f s a)).trans (h s a)

@[simp] theorem State.raiseDevice_sides (k : DeviceKind) (d1 d2 : Word) : (s.raiseDevice k d1 d2).sides = s.sides :=
  State.sides_congr (State.raiseDevice_streams s k d1 d2)

@[simp] theorem State.raiseStream_sides (i : Fin 256) (k : StreamKind) : (s.raiseStream i k).sides = s.sides := by
  funext j
  simp [State.sides, Stream.sides]

@[simp] theorem State.raiseAll_sides (i : Fin 256) (ks : List StreamKind) : (s.raiseAll i ks).sides = s.sides :=
  foldl_sides s (fun s k => s.raiseStream_sides i k) ks

@[simp] theorem State.answer_sides (f : ControlFrame) (echo : Byte) (a : Answer) :
    (s.answer f echo a).sides = s.sides :=
  State.sides_congr (State.answer_streams s f echo a)

/-! ## A delivery keeps an active checker active -/

theorem Checker.active_of_timed {c : Checker} (h : c.timed = true) : c.active = true :=
  (Checker.active_iff c).mpr (sync_ne_off_of_timed h)

theorem Checker.verified_active {cfg : StreamConfig} {c : Checker} (h : c.active = true) :
    (c.verified cfg).1.active = true := by
  unfold Checker.verified
  simp only []
  split
  · rfl
  · exact h

section
variable {cfg : StreamConfig} {st : Store} {o : Bool} {f : Frame} {c : Checker}

theorem takeHunt_active (h : c.active = true) : (takeHunt cfg st o f c).1.active = true := by
  unfold takeHunt
  split
  · split <;> exact h
  · split
    · exact h
    · simp only []
      split
      · exact h
      · exact Checker.verified_active rfl

theorem verifyCompare_active (h : c.active = true) : (verifyCompare cfg st o f c).1.active = true := by
  unfold verifyCompare
  simp only []
  split
  · rfl
  · exact Checker.verified_active h

theorem takeVerify_active (h : c.active = true) : (takeVerify cfg st o f c).1.active = true := by
  unfold takeVerify
  split
  · exact h
  · exact takeHunt_active rfl
  · split
    · rfl
    · exact verifyCompare_active h

theorem settleLock_active : (settleLock cfg o c).1.active = true := by
  unfold settleLock
  split <;> rfl

theorem takeLocked_active (h : c.active = true) : (takeLocked cfg st o f c).1.active = true := by
  unfold takeLocked
  split
  · exact h
  · exact takeHunt_active rfl
  · split
    · exact settleLock_active
    · simp only []
      split
      · exact verifyCompare_active rfl
      · exact settleLock_active

/-- A delivery starts no checker and stops none (R109). -/
theorem takeDelivery_active : (takeDelivery cfg st o f c).1.active = c.active := by
  by_cases hoff : c.sync = .off
  · rw [takeDelivery, hoff]
  · have hactive : c.active = true := (Checker.active_iff c).mpr hoff
    have hreceived : Checker.active { c.tally o { received := 1 } with silence := 0 } = true := hactive
    rw [hactive]
    unfold takeDelivery
    simp only []
    split
    · exact absurd ‹_› hoff
    · exact takeHunt_active hreceived
    · exact takeVerify_active hreceived
    · exact takeLocked_active hreceived
    · exact takeLocked_active hreceived

end

/-! ## The checkers -/

@[simp] theorem deliver_sides (i : Fin 256) (f : Frame) : (deliver s i f).sides = s.sides := by
  rw [deliver, State.raiseAll_sides, State.setChk_sides s takeDelivery_active]

theorem expireSilence_sides {i : Fin 256} (h : (s.stream i).chk.timed = true) :
    (expireSilence s i).sides = s.sides := by
  have hactive := Checker.active_of_timed h
  unfold expireSilence
  simp only []
  split
  · exact s.setChk_sides hactive.symm
  · rw [State.raiseStream_sides]
    exact s.setChk_sides hactive.symm

@[simp] theorem tickChecker_sides (i : Fin 256) : (tickChecker s i).sides = s.sides := by
  unfold tickChecker
  simp only []
  split_ifs with he
  · exact expireSilence_sides s (timed_of_silenceExpires he)
  · exact s.setChk_sides rfl
  · rfl

theorem restartChecker_sides {i : Fin 256} (h : (s.stream i).chk.active = true) :
    (restartChecker s i).sides = s.sides := by
  unfold restartChecker
  simp only []
  split
  · rw [State.raiseStream_sides]
    exact s.setChk_sides h.symm
  · exact s.setChk_sides h.symm

/-! ## Gates and ticks -/

@[simp] theorem classifyMember_sides (i : Fin 256) : (classifyMember s i).sides = s.sides := by
  have hset : (s.setChk i ((s.stream i).chk.afterTick (tickClass (s.stream i)))).sides = s.sides := s.setChk_sides rfl
  unfold classifyMember
  simp only []
  split
  · rw [State.raiseStream_sides, hset]
  · exact hset

@[simp] theorem classifyMembers_sides (g : Fin 4) : (classifyMembers s g).sides = s.sides :=
  foldl_sides s classifyMember_sides _

@[simp] theorem freshMembers_sides (g : Fin 4) : (freshMembers s g).sides = s.sides := by
  refine s.mapStreams_sides fun r => ?_
  split <;> rfl

@[simp] theorem openGate_sides (g : Fin 4) : (openGate s g).sides = s.sides := freshMembers_sides _ g

@[simp] theorem endInterval_sides (g : Fin 4) (stop : Bool) (base : Nat) :
    (endInterval g stop base s).sides = s.sides := by
  refine endInterval_induction s g stop base (P := fun t => t.sides = s.sides) ?_ fun _ _ h => h
  rw [State.raiseDevice_sides]
  exact freshMembers_sides s g

@[simp] theorem closeGate_sides (g : Fin 4) (stop : Bool) : (closeGate g stop s).sides = s.sides := by
  unfold closeGate
  split <;> rfl

theorem countEventWith_sides {atEnd : State → State} (hend : ∀ s, (atEnd s).sides = s.sides) (g : Fin 4) :
    (countEventWith atEnd g s).sides = s.sides := by
  have hcount := fun x => classifyMembers_sides (s.setGate g x) g
  unfold countEventWith
  simp only []
  split
  case h_1 => rfl
  case h_2 =>
    split
    · exact openGate_sides s g
    · rfl
  case h_3 =>
    split
    · exact (hend _).trans (hcount _)
    · exact hcount _

@[simp] theorem feedPartner_sides (g : Fin 4) (base : Nat) : (feedPartner g base s).sides = s.sides := by
  unfold feedPartner
  split
  · exact countEventWith_sides s (fun s => by rw [endAlone, closeGate_sides, endInterval_sides]) _
  · rfl

@[simp] theorem intervalEnd_sides (g : Fin 4) (stop : Bool) (base : Nat) :
    (intervalEnd g stop base s).sides = s.sides := by
  rw [intervalEnd, closeGate_sides, feedPartner_sides, endInterval_sides]

@[simp] theorem countEvent_sides (base : Nat) (g : Fin 4) : (countEvent base g s).sides = s.sides :=
  countEventWith_sides s (fun s => intervalEnd_sides s _ _ _) g

@[simp] theorem tickGate_sides (source : GateSource) (base : Nat) (g : Fin 4) :
    (tickGate source base s g).sides = s.sides := by
  unfold tickGate
  split
  · exact countEvent_sides s _ _
  · rfl

@[simp] theorem tickGates_sides (source : GateSource) (order : List (Fin 4)) :
    (tickGates source order s).sides = s.sides :=
  foldl_sides s (fun s g => tickGate_sides s _ _ g) _

@[simp] theorem tickSite_sides (base : Nat) (x : TickSite) : (tickSite base s x).sides = s.sides := by
  cases x with
  | checker i => exact tickChecker_sides s i
  | gate g => exact tickGate_sides s _ _ g

@[simp] theorem edgeGate_sides (base : Nat) (g : Fin 4) : (edgeGate base s g).sides = s.sides := by
  unfold edgeGate
  simp only []
  split_ifs
  · exact openGate_sides s g
  · exact countEvent_sides s _ _
  · rfl

@[simp] theorem stopGate_sides (g : Fin 4) : (stopGate s g).sides = s.sides := by
  unfold stopGate
  split
  · rfl
  · rfl
  · exact intervalEnd_sides s _ _ _

/-! ## Generators -/

theorem Generator.active_congr {g g' : Generator} (h : g'.state = g.state) : g'.active = g.active := by
  rw [Generator.active, Generator.active, h]

@[simp] theorem paceStream_sides (i : Fin 256) : (paceStream s i).sides = s.sides := by
  unfold paceStream pacingReload
  simp only []
  split_ifs
  · rw [State.raiseStream_sides]
    exact s.setGen_sides rfl
  · exact s.setGen_sides rfl
  · exact s.setGen_sides rfl

/-- A change of mode holds a RUNNING generator or lets a HELD one run: both are active (R9, R51). -/
theorem Stream.atModeChange_sides (r : Stream) (l : Fin 16) (a b : EgressMode) :
    (r.atModeChange l a b).sides = r.sides := by
  rw [Stream.atModeChange_eq]
  split_ifs with hhold hrun
  · obtain ⟨-, -, -, hstate⟩ := hhold
    have hactive : r.gen.active = true := by rw [Generator.active, hstate]; rfl
    rw [Stream.sides, Stream.sides, hactive]
    rfl
  · obtain ⟨-, -, -, hstate⟩ := hrun
    have hactive : r.gen.active = true := by rw [Generator.active, hstate]; rfl
    rw [Stream.sides, Stream.sides, hactive]
    rfl
  · rfl

/-! ## Lanes -/

@[simp] theorem takeControl_sides (broadcast : Bool) (f : Frame) : (takeControl s broadcast f).sides = s.sides := by
  unfold takeControl
  split
  · rfl
  · exact State.raiseDevice_sides _ _ _ _

@[simp] theorem takeClient_sides (l : Fin 16) (f : Frame) : (takeClient s l f).sides = s.sides := by
  unfold takeClient
  simp only []
  split_ifs
  · rfl
  · rfl
  · exact State.raiseDevice_sides _ _ _ _

@[simp] theorem forward_sides (l : Fin 16) (f : Frame) : (forward s l f).sides = s.sides :=
  forward_induction (P := fun t => t.sides = s.sides) (fun _ => rfl)
    (fun t k d1 d2 h => (t.raiseDevice_sides k d1 d2).trans h) f

@[simp] theorem countVerdict_sides (l : Fin 16) (v : Verdict) : (countVerdict s l v).sides = s.sides := by
  unfold countVerdict
  split
  · rfl
  · rfl
  · rfl
  · split <;> rfl
  · split_ifs <;> rfl

theorem sendTest_sides (l : Fin 16) (i : Fin 256) : (sendTest s l i).sides = s.sides :=
  s.setGen_sides (Generator.active_congr (injectWords_state _ _))

@[simp] theorem sendClient_sides (l : Fin 16) : (sendClient s l).sides = s.sides := by
  unfold sendClient
  simp only []
  split
  · split <;> rfl
  · rfl

@[simp] theorem serveLineOut_sides (l : Fin 16) : (serveLineOut s l).sides = s.sides := by
  unfold serveLineOut
  split
  · exact sendTest_sides s l _
  · exact sendClient_sides s l

@[simp] theorem enterWaiting_sides : (enterWaiting s).sides = s.sides := by
  obtain ⟨r, -, -, h⟩ | ⟨-, h⟩ := enterWaiting_cases s
  · rw [h]
    rfl
  · rw [h]

@[simp] theorem sendForwarded_sides (l : Fin 16) : (sendForwarded s l).sides = s.sides := by
  unfold sendForwarded
  simp only []
  split <;> rfl

@[simp] theorem sendOutbound_sides (o : OutFrame) (rest : List OutFrame) : (sendOutbound s o rest).sides = s.sides :=
  enterWaiting_sides _

end Sys2Proof.Machine
end

section
/-! SUPPORT. The commands and the other events that leave the sides of every stream alone. -/

namespace Sys2Proof.Machine

/-! ## The commands -/

/-- A command's checks in front of an action that leaves the sides alone. -/
theorem checked_sides {cs : List (Bool × Status)} {s : State} {k : Answer × State} (h : k.2.sides = s.sides) :
    (checked cs s k).2.sides = s.sides :=
  checked_keeps (P := fun t => t.sides = s.sides) rfl fun _ => h

variable (s : State) (ws : List Word)

theorem identifyAct_sides : (identifyAct ws s).2.sides = s.sides := by
  unfold identifyAct
  split <;> rfl

theorem readStreamAct_sides : (readStreamAct ws s).2.sides = s.sides := by
  unfold readStreamAct
  split
  · exact checked_sides rfl
  · rfl

theorem clearCountsAct_sides : (clearCountsAct ws s).2.sides = s.sides := by
  unfold clearCountsAct
  split
  · exact checked_sides (s.setStream_sides rfl)
  · rfl

theorem setInjectAct_sides : (setInjectAct ws s).2.sides = s.sides := by
  unfold setInjectAct
  split
  · exact checked_sides (s.setGen_sides rfl)
  · rfl

theorem injectOneAct_sides : (injectOneAct ws s).2.sides = s.sides := by
  unfold injectOneAct
  split
  · exact checked_sides (s.setGen_sides rfl)
  · rfl

theorem injectBurstAct_sides : (injectBurstAct ws s).2.sides = s.sides := by
  unfold injectBurstAct
  split
  · exact checked_sides (s.setGen_sides rfl)
  · rfl

theorem restartChkAct_sides : (restartChkAct ws s).2.sides = s.sides := by
  unfold restartChkAct
  split
  · refine checked_keeps (P := fun t => t.sides = s.sides) rfl fun h => ?_
    simp only [List.mem_cons, List.not_mem_nil, or_false, forall_eq_or_imp, forall_eq] at h
    obtain ⟨-, hactive⟩ := h
    exact restartChecker_sides s hactive
  · rfl

theorem setLaneAct_sides : (setLaneAct ws s).2.sides = s.sides := by
  unfold setLaneAct
  split
  · exact checked_sides (s.mapStreams_sides fun r => r.atModeChange_sides _ _ _)
  · rfl

theorem readLaneAct_sides : (readLaneAct ws s).2.sides = s.sides := by
  unfold readLaneAct
  split
  · refine checked_sides ?_
    simp only []
    split <;> rfl
  · rfl

theorem setWindowAct_sides : (setWindowAct ws s).2.sides = s.sides := by
  unfold setWindowAct
  split
  · split
    · rfl
    · exact checked_sides (checked_sides rfl)
  · rfl

theorem readSegmentAct_sides : (readSegmentAct ws s).2.sides = s.sides := by
  unfold readSegmentAct
  split
  · exact checked_sides rfl
  · rfl

theorem readPatternAct_sides : (readPatternAct ws s).2.sides = s.sides := by
  unfold readPatternAct
  split
  · exact checked_sides rfl
  · rfl

theorem setGateAct_sides : (setGateAct ws s).2.sides = s.sides := by
  unfold setGateAct
  split
  · exact checked_sides rfl
  · rfl

theorem startGateAct_sides : (startGateAct ws s).2.sides = s.sides := by
  unfold startGateAct
  split
  · exact checked_sides rfl
  · rfl

theorem stopGateAct_sides : (stopGateAct ws s).2.sides = s.sides := by
  unfold stopGateAct
  split
  · exact checked_sides (stopGate_sides s _)
  · rfl

theorem readGateAct_sides : (readGateAct ws s).2.sides = s.sides := by
  unfold readGateAct
  split
  · exact checked_sides rfl
  · rfl

theorem fetchResultsAct_sides : (fetchResultsAct ws s).2.sides = s.sides := by
  unfold fetchResultsAct
  split
  · exact checked_sides rfl
  · rfl

theorem releaseResultsAct_sides : (releaseResultsAct ws s).2.sides = s.sides := by
  unfold releaseResultsAct
  split
  · exact checked_sides rfl
  · rfl

theorem setRingAct_sides : (setRingAct ws s).2.sides = s.sides := by
  unfold setRingAct
  split
  · exact checked_sides rfl
  · rfl

theorem readRingAct_sides : (readRingAct ws s).2.sides = s.sides := by
  unfold readRingAct
  split <;> rfl

theorem readEventsAct_sides : (readEventsAct ws s).2.sides = s.sides := by
  unfold readEventsAct
  split <;> rfl

theorem ackStream_sides (i : Fin 256) (mask : KindSet) : (ackStream s i mask).sides = s.sides := s.setStream_sides rfl

theorem ackEventsAct_sides : (ackEventsAct ws s).2.sides = s.sides := by
  unfold ackEventsAct
  split
  · split
    · exact checked_sides rfl
    · exact checked_sides (ackStream_sides s _ _)
  · rfl

theorem withdrawKind_sides (k : Kind) : (withdrawKind s k).sides = s.sides := by
  cases k with
  | device k => rfl
  | stream k => exact s.mapStreams_sides fun _ => rfl

theorem setPolicy_sides (k : Kind) (p : Policy) : (setPolicy s k p).sides = s.sides := by
  unfold setPolicy
  simp only []
  split
  · exact withdrawKind_sides _ k
  · rfl

theorem setEventPolicyAct_sides : (setEventPolicyAct ws s).2.sides = s.sides := by
  unfold setEventPolicyAct
  split
  · split
    · rfl
    · exact checked_sides (setPolicy_sides s _ _)
  · rfl

/-! ## The other events -/

variable {s} {t : State}

theorem execUnknownCommand_sides (h : execUnknownCommand s = .next t) : t.sides = s.sides := by
  unfold execUnknownCommand at h
  split at h
  · cases h; rfl
  · split at h
    · cases h; exact State.answer_sides _ _ _ _
    · cases h; rfl

theorem execClientInArrival_sides {l : Fin 16} {f : Frame} (h : execClientInArrival l f s = .next t) :
    t.sides = s.sides := by
  unfold execClientInArrival at h
  split at h
  · split at h
    · cases h; exact takeControl_sides _ _ _
    · cases h; rw [takeClient_sides, takeControl_sides]
    · cases h; exact takeClient_sides _ _ _
  · cases h; rfl

theorem execLineInArrival_sides {l : Fin 16} {f : Frame} {b : Bool} (h : execLineInArrival l f b s = .next t) :
    t.sides = s.sides := by
  unfold execLineInArrival at h
  simp only [] at h
  split at h
  · split at h
    · split_ifs at h <;> cases h <;> simp only [deliver_sides, forward_sides, countVerdict_sides]
    · cases h; rw [forward_sides, countVerdict_sides]
  · cases h; rfl

theorem execLineOutOpportunity_sides {l : Fin 16} (h : execLineOutOpportunity l s = .next t) : t.sides = s.sides := by
  unfold execLineOutOpportunity at h
  split at h
  · split at h
    · cases h; exact sendClient_sides s l
    · cases h; rw [serveLineOut_sides, paceLane, foldl_sides s paceStream_sides]
  · cases h; rfl

theorem execClientOutOpportunity_sides {l : Fin 16} (h : execClientOutOpportunity l s = .next t) :
    t.sides = s.sides := by
  unfold execClientOutOpportunity at h
  split at h
  · split at h
    · split at h
      · cases h; exact sendOutbound_sides s _ _
      · cases h; exact sendForwarded_sides s l
    · cases h; exact sendForwarded_sides s l
  · cases h; rfl

theorem execPacingExpiry_sides {i : Fin 256} (h : execPacingExpiry i s = .next t) : t.sides = s.sides := by
  unfold execPacingExpiry at h
  split at h
  · cases h; exact paceStream_sides s i
  · cases h; rfl

theorem execRateInjection_sides {i : Fin 256} {w : Word} (h : execRateInjection i w s = .next t) :
    t.sides = s.sides := by
  unfold execRateInjection at h
  simp only [] at h
  split at h
  · cases h
    exact s.setGen_sides (g := (rateFlip (s.stream i).gen w).1) rfl
  · cases h; rfl

theorem execSilenceExpiry_sides {i : Fin 256} (h : execSilenceExpiry i s = .next t) : t.sides = s.sides := by
  unfold execSilenceExpiry at h
  split at h
  case isTrue he =>
    cases h
    exact expireSilence_sides s (timed_of_silenceExpires ((Bool.and_eq_true _ _).mp he).2)
  case isFalse => cases h; rfl

theorem execIntervalEnd_sides {g : Fin 4} (h : execIntervalEnd g s = .next t) : t.sides = s.sides := by
  unfold execIntervalEnd at h
  split at h
  · cases h; exact countEvent_sides s _ g
  · cases h; rfl

theorem execResetRelease_sides {a : BitVec 6} {n : BitVec 2} (h : execResetRelease a n s = .next t) :
    t.sides = s.sides := by
  unfold execResetRelease at h
  split at h <;> cases h <;> rfl

/-- An event that does nothing under a reset and leaves the sides alone otherwise. -/
theorem running_sides {u : State} (hu : u.sides = s.sides)
    (h : (if s.inReset then .next s else .next u : Result) = .next t) : t.sides = s.sides := by
  split at h
  · cases h; rfl
  · cases h; exact hu

theorem execT1ms_sides {order : List TickSite} (h : execT1ms order s = .next t) : t.sides = s.sides :=
  running_sides (foldl_sides { s with ms := (s.ms + 1) % 1000 } (fun s x => tickSite_sides s _ x) _) h

theorem completeClear_sides (s : State) (g : Fin 64) : (completeClear s g).sides = s.sides :=
  State.raiseDevice_sides (s.setStore (s.store.finishClear g)) .clearDone 0 0

end Sys2Proof.Machine
end

section
/-! SUPPORT. The use counts (R83): the starts and stops of sides change them, a pattern in use stays READY, and every
other event leaves both the counts and the sides alone. -/

namespace Sys2Proof.Machine

variable {s t : State}

/-! ## Where the sides stay -/

/-- Every use count stays, and a READY pattern in use stays READY (R83). -/
def Store.KeepsPins (st st' : Store) : Prop :=
  ∀ p, (st'.pattern p).uses = (st.pattern p).uses
    ∧ (0 < (st.pattern p).uses → (st.pattern p).ready = true → (st'.pattern p).ready = true)

theorem Store.KeepsPins.of_patterns {st st' : Store} (h : st'.patterns = st.patterns) : st.KeepsPins st' := by
  intro p
  rw [Store.pattern, Store.pattern, h]
  exact ⟨rfl, fun _ hready => hready⟩

/-- One entry changes, its use count apart, and does not lose READY in use (R79 to R81). -/
theorem Store.KeepsPins.setPattern {st : Store} {p : Fin 32} {e : Pattern} (huses : e.uses = (st.pattern p).uses)
    (hready : 0 < e.uses → (st.pattern p).ready = true → e.ready = true) : st.KeepsPins (st.setPattern p e) := by
  intro q
  rw [Store.pattern_setPattern]
  split
  case isTrue hpq => exact hpq ▸ ⟨huses, huses ▸ hready⟩
  case isFalse => exact ⟨rfl, fun _ hq => hq⟩

/-- A clear undefines patterns out of use alone (R72, R73). -/
theorem Store.KeepsPins.beginClear {st : Store} {g : Fin 64}
    (hpinned : st.coveredBy g (fun e => decide (0 < e.uses)) = false) :
    st.KeepsPins ((st.undefineOver g).beginClear g) := by
  intro p
  obtain ⟨-, -, hpatterns⟩ := (st.undefineOver g).beginClear_frame g
  have hp : ((st.undefineOver g).beginClear g).pattern p = (st.undefineOver g).pattern p := by
    rw [Store.pattern, Store.pattern, hpatterns]
  rw [hp, Store.pattern_undefineOver]
  split
  case isTrue hcovers =>
    exact ⟨rfl, fun huses => absurd huses (of_decide_eq_false ((Store.coveredBy_eq_false _ _ _).mp hpinned p hcovers))⟩
  case isFalse => exact ⟨rfl, fun _ hready => hready⟩

/-- A wipe begins with every pattern out of use (R76). -/
theorem Store.KeepsPins.beginWipe {st : Store} (hunused : ∀ p, (st.pattern p).uses = 0) :
    st.KeepsPins st.beginWipe := by
  intro p
  rw [Store.pattern_beginWipe]
  exact ⟨rfl, fun huses => absurd (hunused p) huses.ne'⟩

theorem UseLaw.of_pins (hs : UseLaw s) (hsides : t.sides = s.sides) (hpins : s.store.KeepsPins t.store) : UseLaw t := by
  intro p
  obtain ⟨hcount, hready⟩ := hs p
  obtain ⟨huses, hkept⟩ := hpins p
  rw [huses, State.sidesOn_congr hsides]
  exact ⟨hcount, fun hpos => hkept hpos (hready hpos)⟩

theorem UseLaw.of_store (hs : UseLaw s) (hsides : t.sides = s.sides) (hstore : t.store = s.store) : UseLaw t :=
  hs.of_pins hsides (.of_patterns (congrArg Store.patterns hstore))

theorem runCommand_useLaw {row : Instr} {act : List Word → State → Answer × State}
    (hact : ∀ s ws, UseLaw s → UseLaw (act ws s).2) (h : runCommand row act s = .next t) (hs : UseLaw s) : UseLaw t :=
  runCommand_keeps (fun _ _ hs => hs.of_store rfl rfl)
    (fun s f echo a hs => hs.of_store (s.answer_sides f echo a) (s.answer_store f echo a)) hact h hs

/-- A command that leaves the sides and the store alone. -/
theorem runCommand_useLaw_of_kept {row : Instr} {act : List Word → State → Answer × State}
    (hsides : ∀ s ws, (act ws s).2.sides = s.sides) (hstore : ∀ s ws, (act ws s).2.store = s.store)
    (h : runCommand row act s = .next t) (hs : UseLaw s) : UseLaw t :=
  runCommand_useLaw (fun s ws hs => hs.of_store (hsides s ws) (hstore s ws)) h hs

/-! ## The commands of the Pattern Store -/

theorem loadWordsAct_useLaw (s : State) (ws : List Word) (hs : UseLaw s) : UseLaw (loadWordsAct ws s).2 := by
  unfold loadWordsAct
  split
  · split
    · exact checked_keeps hs fun _ => hs.of_pins rfl (.of_patterns rfl)
    · exact hs
  · exact hs

theorem clearSegmentAct_useLaw (s : State) (ws : List Word) (hs : UseLaw s) : UseLaw (clearSegmentAct ws s).2 := by
  unfold clearSegmentAct
  split
  · refine checked_keeps hs fun h => hs.of_pins rfl (.beginClear ?_)
    simp only [List.mem_cons, List.not_mem_nil, or_false, forall_eq_or_imp, forall_eq, Bool.not_eq_true'] at h
    obtain ⟨-, -, -, -, hpinned, -⟩ := h
    exact hpinned
  · exact hs

theorem wipeStoreAct_useLaw (s : State) (ws : List Word) (hs : UseLaw s) : UseLaw (wipeStoreAct ws s).2 := by
  unfold wipeStoreAct
  split
  · refine checked_keeps hs fun h => hs.of_pins rfl (.beginWipe ?_)
    simp only [List.mem_cons, List.not_mem_nil, or_false, forall_eq_or_imp, forall_eq, Bool.not_eq_true',
      List.any_eq_false, mem_indexes, forall_const, decide_eq_true_eq, Nat.not_lt, Nat.le_zero] at h
    obtain ⟨-, hunused⟩ := h
    exact hunused
  · exact hs

theorem definePatternAct_useLaw (s : State) (ws : List Word) (hs : UseLaw s) : UseLaw (definePatternAct ws s).2 := by
  unfold definePatternAct
  split
  · exact checked_keeps hs fun _ => hs.of_pins rfl (.setPattern rfl fun _ _ => rfl)
  · exact hs

theorem undefinePatternAct_useLaw (s : State) (ws : List Word) (hs : UseLaw s) :
    UseLaw (undefinePatternAct ws s).2 := by
  unfold undefinePatternAct
  split
  · refine checked_keeps hs fun h => hs.of_pins rfl (.setPattern rfl fun hpos => ?_)
    simp only [List.mem_cons, List.not_mem_nil, or_false, forall_eq_or_imp, forall_eq, beq_iff_eq] at h
    obtain ⟨-, -, hunused⟩ := h
    exact absurd hunused hpos.ne'
  · exact hs

theorem freezePatternAct_useLaw (s : State) (ws : List Word) (hs : UseLaw s) : UseLaw (freezePatternAct ws s).2 := by
  unfold freezePatternAct
  split
  · exact checked_keeps hs fun _ => hs.of_pins rfl (.setPattern rfl fun _ hready => hready)
  · exact hs

/-! ## One stream changes -/

theorem one_true : one true = 1 := rfl
theorem one_false : one false = 0 := rfl

/-- The active sides of a stream, whatever its pattern (R9). -/
def Stream.activeSides (r : Stream) : Nat := one r.gen.active + one r.chk.active

theorem Stream.sidesOn_eq (r : Stream) (p : Fin 32) :
    r.sidesOn p = if r.config.kind = .user p then r.activeSides else 0 := rfl

theorem Stream.activeSides_eq_zero {r : Stream} (hgen : r.gen.active = false) (hchk : r.chk.active = false) :
    r.activeSides = 0 := by
  rw [Stream.activeSides, hgen, hchk, one_false]

/-- One record in the place of another moves the sum by the difference of the two. -/
theorem State.sidesOn_setStream (s : State) (i : Fin 256) (r : Stream) (p : Fin 32) :
    (s.setStream i r).sidesOn p + (s.stream i).sidesOn p = s.sidesOn p + r.sidesOn p := by
  have hsum (u : State) : u.sidesOn p = ∑ j, (u.stream j).sidesOn p := (Fin.sum_univ_def _).symm
  have hothers : ∑ j ∈ Finset.univ.erase i, ((s.setStream i r).stream j).sidesOn p
      = ∑ j ∈ Finset.univ.erase i, (s.stream j).sidesOn p :=
    Finset.sum_congr rfl fun j hj => by
      rw [State.stream_setStream, if_neg (Finset.ne_of_mem_erase hj).symm]
  have hself : (s.setStream i r).stream i = r := by rw [State.stream_setStream, if_pos rfl]
  rw [hsum, hsum, ← Finset.add_sum_erase _ _ (Finset.mem_univ i), ← Finset.add_sum_erase _ _ (Finset.mem_univ i),
    hothers, hself]
  omega

/-- A use count changes where the kind names the pattern (R83). -/
theorem Store.pattern_use (st : Store) (k : PatternKind) (f : Nat → Nat) (p : Fin 32) :
    (st.use k f).pattern p =
      if k = .user p then { st.pattern p with uses := f (st.pattern p).uses } else st.pattern p := by
  cases k with
  | prbs q => rfl
  | fixed w => rfl
  | user q =>
    rw [Store.use_user_eq, Store.pattern_setPattern]
    by_cases hpq : q = p
    · rw [if_pos hpq, if_pos (congrArg PatternKind.user hpq), hpq]
    · rw [if_neg hpq, if_neg fun hk => hpq (PatternKind.user.inj hk)]

/-- One side of a stream starts on a READY pattern: the pattern's use count rises (R83, R87, R106). -/
theorem UseLaw.start {i : Fin 256} {r : Stream} (hs : UseLaw s) (hkind : r.config.kind = (s.stream i).config.kind)
    (hsides : r.activeSides = (s.stream i).activeSides + 1)
    (hready : s.store.patternReady (s.stream i).config.kind = true) :
    UseLaw ((s.setStream i r).setStore (s.store.use (s.stream i).config.kind (· + 1))) := by
  intro p
  have hsum := s.sidesOn_setStream i r p
  obtain ⟨hcount, hkept⟩ := hs p
  show ((s.store.use _ _).pattern p).uses = (s.setStream i r).sidesOn p ∧ _
  rw [Stream.sidesOn_eq, Stream.sidesOn_eq, hkind] at hsum
  rw [State.setStore_store, Store.pattern_use]
  split
  case isTrue hp =>
    rw [if_pos hp, if_pos hp] at hsum
    rw [hp] at hready
    exact ⟨show _ + 1 = _ by omega, fun _ => hready⟩
  case isFalse hp =>
    rw [if_neg hp, if_neg hp] at hsum
    exact ⟨by omega, hkept⟩

/-- One side of a stream stops: the use count of its pattern falls (R83, R88, R107). -/
theorem UseLaw.stop {i : Fin 256} {r : Stream} (hs : UseLaw s) (hkind : r.config.kind = (s.stream i).config.kind)
    (hsides : r.activeSides + 1 = (s.stream i).activeSides) :
    UseLaw ((s.setStream i r).setStore (s.store.use (s.stream i).config.kind (· - 1))) := by
  intro p
  have hsum := s.sidesOn_setStream i r p
  obtain ⟨hcount, hkept⟩ := hs p
  show ((s.store.use _ _).pattern p).uses = (s.setStream i r).sidesOn p ∧ _
  rw [Stream.sidesOn_eq, Stream.sidesOn_eq, hkind] at hsum
  rw [State.setStore_store, Store.pattern_use]
  split
  case isTrue hp =>
    rw [if_pos hp, if_pos hp] at hsum
    exact ⟨show _ - 1 = _ by omega, fun hpos => hkept (Nat.lt_of_lt_of_le hpos (Nat.sub_le _ _))⟩
  case isFalse hp =>
    rw [if_neg hp, if_neg hp] at hsum
    exact ⟨by omega, hkept⟩

/-- A stream without an active side is on no pattern before and after (R18). -/
theorem UseLaw.setInactive {i : Fin 256} {r : Stream} (hs : UseLaw s) (hold : (s.stream i).activeSides = 0)
    (hnew : r.activeSides = 0) : UseLaw (s.setStream i r) := by
  intro p
  have hsum := s.sidesOn_setStream i r p
  rw [Stream.sidesOn_eq, Stream.sidesOn_eq, hold, hnew, ite_self, ite_self, Nat.add_zero, Nat.add_zero] at hsum
  rw [hsum]
  exact hs p

/-! ## The commands that change a side or a kind -/

theorem setStreamAct_useLaw (s : State) (ws : List Word) (hs : UseLaw s) : UseLaw (setStreamAct ws s).2 := by
  unfold setStreamAct
  split
  · refine checked_keeps hs fun h => ?_
    simp only [List.mem_cons, List.not_mem_nil, or_false, forall_eq_or_imp, forall_eq, Bool.not_eq_true',
      Stream.active, Bool.or_eq_false_iff] at h
    obtain ⟨-, ⟨hgen, hchk⟩, -⟩ := h
    exact hs.setInactive (Stream.activeSides_eq_zero hgen hchk) (Stream.activeSides_eq_zero hgen hchk)
  · exact hs

theorem startedState_ne_idle (m : EgressMode) : startedState m ≠ .idle := by cases m <;> decide

theorem startGenAct_useLaw (s : State) (ws : List Word) (hs : UseLaw s) : UseLaw (startGenAct ws s).2 := by
  unfold startGenAct
  split
  · refine checked_keeps hs fun h => ?_
    simp only [List.mem_cons, List.not_mem_nil, or_false, forall_eq_or_imp, forall_eq, Bool.not_eq_true'] at h
    obtain ⟨-, -, hidle, -, hready⟩ := h
    refine hs.start rfl ?_ hready
    have hactive (cfg : StreamConfig) (m : EgressMode) (g : Generator) : (g.started cfg m).active = true :=
      bne_iff_ne.mpr (startedState_ne_idle m)
    show one (Generator.started _ _ _).active + one (s.stream _).chk.active = _
    rw [Stream.activeSides, hidle, hactive, one_true, one_false]
    omega
  · exact hs

theorem stopGenAct_useLaw (s : State) (ws : List Word) (hs : UseLaw s) : UseLaw (stopGenAct ws s).2 := by
  unfold stopGenAct
  split
  · refine checked_keeps hs fun h => ?_
    simp only [List.mem_cons, List.not_mem_nil, or_false, forall_eq_or_imp, forall_eq] at h
    obtain ⟨-, hactive⟩ := h
    refine hs.stop rfl ?_
    have hidle (g : Generator) : g.stopped.active = false := rfl
    show one (Generator.stopped _).active + one (s.stream _).chk.active + 1 = _
    rw [Stream.activeSides, hactive, hidle, one_true, one_false]
    omega
  · exact hs

theorem startChkAct_useLaw (s : State) (ws : List Word) (hs : UseLaw s) : UseLaw (startChkAct ws s).2 := by
  unfold startChkAct
  split
  · refine checked_keeps hs fun h => ?_
    simp only [List.mem_cons, List.not_mem_nil, or_false, forall_eq_or_imp, forall_eq, Bool.not_eq_true'] at h
    obtain ⟨-, -, hoff, -, hready⟩ := h
    refine hs.start rfl ?_ hready
    have hactive (c : Checker) (o : Bool) : (c.started o).active = true := rfl
    rw [Stream.activeSides, Stream.activeSides, hoff, hactive]
    rfl
  · exact hs

theorem stopChkAct_useLaw (s : State) (ws : List Word) (hs : UseLaw s) : UseLaw (stopChkAct ws s).2 := by
  unfold stopChkAct
  split
  · refine checked_keeps hs fun h => ?_
    simp only [List.mem_cons, List.not_mem_nil, or_false, forall_eq_or_imp, forall_eq] at h
    obtain ⟨-, hactive⟩ := h
    refine hs.stop rfl ?_
    have hoff (c : Checker) : c.stopped.active = false := rfl
    rw [Stream.activeSides, Stream.activeSides, hactive, hoff]
    rfl
  · exact hs

/-! ## The resets -/

/-- With every stream in reset and every pattern out of use (R84, R85). -/
theorem useLaw_of_reset (hstream : ∀ i, s.stream i = Stream.reset) (hunused : ∀ p, (s.store.pattern p).uses = 0) :
    UseLaw s := by
  intro p
  have hsides : s.sides = State.reset.sides := funext fun i => by
    rw [State.sides, State.sides, hstream, State.reset_stream]
  rw [hunused, State.sidesOn_congr hsides, sidesOn_reset]
  exact ⟨rfl, nofun⟩

theorem useLaw_engineReset (s : State) : UseLaw (engineReset s) :=
  useLaw_of_reset (engineReset_stream s) fun p => by
    show (s.store.engineReset.pattern p).uses = 0
    rw [Store.pattern_engineReset]

theorem resetEngineAct_useLaw (s : State) (ws : List Word) (hs : UseLaw s) : UseLaw (resetEngineAct ws s).2 := by
  unfold resetEngineAct
  split
  · exact useLaw_engineReset s
  · exact hs

/-! ## Every event -/

theorem execClearCompletion_useLaw (h : execClearCompletion s = .next t) (hs : UseLaw s) : UseLaw t := by
  unfold execClearCompletion at h
  split at h
  case h_1 g _ =>
    split at h
    · cases h; exact hs
    · cases h
      refine hs.of_pins (completeClear_sides s g) (.of_patterns ?_)
      obtain ⟨-, -, hpatterns⟩ := (s.store.finishClear g).nextClear_frame
      rw [completeClear_store, hpatterns]
      rfl
  case h_2 => cases h; exact hs

theorem execWipeCompletion_useLaw (h : execWipeCompletion s = .next t) (hs : UseLaw s) : UseLaw t := by
  unfold execWipeCompletion at h
  split at h
  · cases h
    refine hs.of_pins (State.raiseDevice_sides _ _ _ _) (.of_patterns ?_)
    rw [State.raiseDevice_store]
    rfl
  · cases h; exact hs

theorem exec_useLaw {c : Instr} (h : exec c s = .next t) (hs : UseLaw s) : UseLaw t := by
  cases c with
  | hardwareReset =>
    cases h
    exact useLaw_of_reset (hardwareReset_stream s) fun p => congrArg Pattern.uses (State.reset_pattern p)
  | resetRelease a n => exact hs.of_store (execResetRelease_sides h) (execResetRelease_store h)
  | clientInArrival l f => exact hs.of_store (execClientInArrival_sides h) (execClientInArrival_store h)
  | lineInArrival l f b => exact hs.of_store (execLineInArrival_sides h) (execLineInArrival_store h)
  | lineOutOpportunity l => exact hs.of_store (execLineOutOpportunity_sides h) (execLineOutOpportunity_store h)
  | pacingExpiry i => exact hs.of_store (execPacingExpiry_sides h) (execPacingExpiry_store h)
  | rateInjection i w => exact hs.of_store (execRateInjection_sides h) (execRateInjection_store h)
  | clientOutOpportunity l => exact hs.of_store (execClientOutOpportunity_sides h) (execClientOutOpportunity_store h)
  | waitingReplyEntry =>
    exact hs.of_store (running_sides (enterWaiting_sides s) h) (running_store (enterWaiting_store s) h)
  | t1ms order => exact hs.of_store (execT1ms_sides h) (execT1ms_store h)
  | t10ms order =>
    exact hs.of_store (running_sides (tickGates_sides s _ order) h) (running_store (tickGates_store s _ order) h)
  | t100ms order =>
    exact hs.of_store (running_sides (tickGates_sides s _ order) h) (running_store (tickGates_store s _ order) h)
  | t1s order =>
    exact hs.of_store (running_sides (tickGates_sides s _ order) h) (running_store (tickGates_store s _ order) h)
  | syncIn order =>
    exact hs.of_store (running_sides (foldl_sides s (fun s g => edgeGate_sides s _ g) _) h)
      (running_store (foldl_store s (fun s g => edgeGate_store s _ g) _) h)
  | silenceExpiry i => exact hs.of_store (execSilenceExpiry_sides h) (execSilenceExpiry_store h)
  | intervalEnd g => exact hs.of_store (execIntervalEnd_sides h) (execIntervalEnd_store h)
  | gateOutPulseEnd => cases h; exact hs
  | clearCompletion => exact execClearCompletion_useLaw h hs
  | wipeCompletion => exact execWipeCompletion_useLaw h hs
  | unknownCommand => exact hs.of_store (execUnknownCommand_sides h) (execUnknownCommand_store h)
  | resetEngine => exact runCommand_useLaw resetEngineAct_useLaw h hs
  | setStream => exact runCommand_useLaw setStreamAct_useLaw h hs
  | startGen => exact runCommand_useLaw startGenAct_useLaw h hs
  | stopGen => exact runCommand_useLaw stopGenAct_useLaw h hs
  | startChk => exact runCommand_useLaw startChkAct_useLaw h hs
  | stopChk => exact runCommand_useLaw stopChkAct_useLaw h hs
  | loadWords => exact runCommand_useLaw loadWordsAct_useLaw h hs
  | clearSegment => exact runCommand_useLaw clearSegmentAct_useLaw h hs
  | wipeStore => exact runCommand_useLaw wipeStoreAct_useLaw h hs
  | definePattern => exact runCommand_useLaw definePatternAct_useLaw h hs
  | undefinePattern => exact runCommand_useLaw undefinePatternAct_useLaw h hs
  | freezePattern => exact runCommand_useLaw freezePatternAct_useLaw h hs
  | identify => exact runCommand_useLaw_of_kept identifyAct_sides identifyAct_store h hs
  | echo => exact runCommand_useLaw_of_kept (fun _ _ => rfl) (fun _ _ => rfl) h hs
  | readStream => exact runCommand_useLaw_of_kept readStreamAct_sides readStreamAct_store h hs
  | clearCounts => exact runCommand_useLaw_of_kept clearCountsAct_sides clearCountsAct_store h hs
  | setInject => exact runCommand_useLaw_of_kept setInjectAct_sides setInjectAct_store h hs
  | injectOne => exact runCommand_useLaw_of_kept injectOneAct_sides injectOneAct_store h hs
  | injectBurst => exact runCommand_useLaw_of_kept injectBurstAct_sides injectBurstAct_store h hs
  | restartChk => exact runCommand_useLaw_of_kept restartChkAct_sides restartChkAct_store h hs
  | setLane => exact runCommand_useLaw_of_kept setLaneAct_sides setLaneAct_store h hs
  | readLane => exact runCommand_useLaw_of_kept readLaneAct_sides readLaneAct_store h hs
  | setWindow => exact runCommand_useLaw_of_kept setWindowAct_sides setWindowAct_store h hs
  | readSegment => exact runCommand_useLaw_of_kept readSegmentAct_sides readSegmentAct_store h hs
  | readPattern => exact runCommand_useLaw_of_kept readPatternAct_sides readPatternAct_store h hs
  | setGate => exact runCommand_useLaw_of_kept setGateAct_sides setGateAct_store h hs
  | startGate => exact runCommand_useLaw_of_kept startGateAct_sides startGateAct_store h hs
  | stopGate => exact runCommand_useLaw_of_kept stopGateAct_sides stopGateAct_store h hs
  | readGate => exact runCommand_useLaw_of_kept readGateAct_sides readGateAct_store h hs
  | fetchResults => exact runCommand_useLaw_of_kept fetchResultsAct_sides fetchResultsAct_store h hs
  | releaseResults => exact runCommand_useLaw_of_kept releaseResultsAct_sides releaseResultsAct_store h hs
  | setRing => exact runCommand_useLaw_of_kept setRingAct_sides setRingAct_store h hs
  | readRing => exact runCommand_useLaw_of_kept readRingAct_sides readRingAct_store h hs
  | readEvents => exact runCommand_useLaw_of_kept readEventsAct_sides readEventsAct_store h hs
  | ackEvents => exact runCommand_useLaw_of_kept ackEventsAct_sides ackEventsAct_store h hs
  | setEventPolicy => exact runCommand_useLaw_of_kept setEventPolicyAct_sides setEventPolicyAct_store h hs

/-- Settles O58: a start and a stop move the use count with the sides, no pattern in use is undefined, the resets clear
both, and every other event leaves both alone. -/
theorem everyStepKeepsUseCounts : Obligations.EveryStepKeepsUseCounts := by
  unfold Obligations.EveryStepKeepsUseCounts
  intro s t
  exact step_keeps (fun _ _ h => h) exec_useLaw

end Sys2Proof.Machine
end

section
/-! SUPPORT. CLEAR_COMPLETION and WIPE_COMPLETION (R74, R77) and the end of a GATE_OUT pulse (R144). -/

namespace Sys2Proof.Machine

variable {s : State}

/-- A notice reads and writes no word of the store, so it can stand before or after a change of the store. -/
theorem State.setStore_notify (s : State) (st : Store) (code : Nat) (scope : BitVec 16) (d1 d2 : Word) :
    (s.notify code scope d1 d2).setStore st = (s.setStore st).notify code scope d1 d2 := by
  rw [State.notify, State.notify, apply_ite (State.setStore · st)]
  rfl

/-- A raise can stand before or after a change of the store as well. -/
theorem State.setStore_raiseDevice (s : State) (st : Store) (k : DeviceKind) (d1 d2 : Word) :
    (s.raiseDevice k d1 d2).setStore st = (s.setStore st).raiseDevice k d1 d2 := by
  rw [State.raiseDevice_eq, State.raiseDevice_eq, apply_ite (State.setStore · st), apply_ite (State.setStore · st),
    State.setStore_notify]
  rfl

/-- A completed clear: the store after R74's steps 1 and 3, then CLEAR_DONE. -/
theorem completeClear_eq (s : State) (g : Fin 64) :
    completeClear s g = (s.setStore (s.store.finishClear g).nextClear).raiseDevice .clearDone 0 0 := by
  rw [completeClear, State.raiseDevice_store, State.setStore_store, State.setStore_raiseDevice]
  rfl

theorem exec_clearCompletion {g : Fin 64} (hrun : s.inReset = false) (hg : s.store.clearing = some g) :
    exec .clearCompletion s = .next (completeClear s g) := by
  rw [exec, execClearCompletion, hg, hrun]
  rfl

theorem exec_clearCompletion_of_none (h : s.store.clearing = none) : exec .clearCompletion s = .next s := by
  rw [exec, execClearCompletion, h]

theorem exec_wipeCompletion (hrun : s.inReset = false) (hmode : s.store.mode = .wiping) :
    exec .wipeCompletion s = .next ((s.setStore s.store.finishWipe).raiseDevice .wipeDone 0 0) := by
  rw [exec, execWipeCompletion, hmode, hrun]
  rfl

theorem exec_wipeCompletion_of_normal (hmode : s.store.mode = .normal) : exec .wipeCompletion s = .next s := by
  rw [exec, execWipeCompletion, hmode, Bool.and_comm]
  rfl

/-- Settles O29, by whether a clear is queued behind the one that completes, and event by event. -/
theorem completionsAndPulseEnd : Obligations.CompletionsAndPulseEnd := by
  unfold Obligations.CompletionsAndPulseEnd
  refine ⟨fun s g hrun hg => ⟨fun hqueue => ?_, fun a rest hqueue => ?_⟩, fun m g a => Memory.read_clearSegment g.val a,
    fun s => exec_clearCompletion_of_none, fun s hrun hmode => ?_, fun s => exec_wipeCompletion_of_normal,
    fun s => ⟨rfl, ?_⟩⟩
  · rw [exec_clearCompletion hrun hg, completeClear_eq, Store.nextClear_of_nil (st := s.store.finishClear g) hqueue]
    rfl
  · rw [exec_clearCompletion hrun hg, completeClear_eq, Store.nextClear_of_cons (st := s.store.finishClear g) hqueue]
    rfl
  · rw [exec_wipeCompletion hrun hmode, Store.finishWipe, tableMap_const]
    rfl
  · rw [State.gateOut, decide_eq_true_iff, Nat.pos_iff_ne_zero]

end Sys2Proof.Machine
end

section
/-! SUPPORT. LOAD_WORDS (R70) and READ_SEGMENT (R71). -/

namespace Sys2Proof.Machine

variable {s : State} {f : ControlFrame} {rest : List ControlFrame}

/-! ## What the checks of the store's commands read -/

theorem StoreMode.beq_normal (m : StoreMode) : (m == .normal) = true ↔ ¬ m = .wiping := by
  cases m <;> decide

theorem Segment.not_busy_iff (x : Segment) : (!x.busy) = true ↔ ¬ (x.state = .clearQueued ∨ x.state = .clearing) := by
  rw [Bool.not_eq_true', Segment.busy_eq_false, not_or]

/-! ## LOAD_WORDS -/

theorem loadWordsAct_of_length {ws : List Word} (h : ws.length < 2 ∨ 65 < ws.length) (s : State) :
    loadWordsAct ws s = badLength s := by
  cases ws with
  | nil => rfl
  | cons w data =>
    rw [List.length_cons] at h
    exact if_neg (by omega)

theorem loadWordsAct_cons {data : List Word} (hlow : 1 ≤ data.length) (hhigh : data.length ≤ 64) (w : Word)
    (s : State) : loadWordsAct (w :: data) s = loadWordsTo w data s :=
  if_pos ⟨hlow, hhigh⟩

/-- A segment that holds words is PARTLY filled or FULL (R68). -/
theorem loadedState_of_pos {fill : Nat} (h : 1 ≤ fill) : loadedState fill = if fill < 256 then .partly else .full :=
  if_neg (Nat.ne_of_gt h)

/-- R70's checks in order, and the store an accepted LOAD_WORDS leaves. -/
theorem finish_loadWordsTo {data : List Word} (hlow : 1 ≤ data.length) (w : Word) (s : State) (f : ControlFrame)
    (rest : List ControlFrame) :
    finish f (loadWordsTo w data (s.dequeue rest)) =
      let g := index 64 w
      let x := s.store.seg g
      let fill := x.fill + data.length
      if 63 < w.toNat then s.refuses f rest .outOfRange
      else if s.store.mode = .wiping then s.refuses f rest .storeBusy
      else if x.state = .clearQueued ∨ x.state = .clearing then s.refuses f rest .segmentBusy
      else if x.state = .faulted then s.refuses f rest .faulted
      else if 256 < fill then s.refuses f rest .segmentFull
      else
        ((s.dequeue rest).setStore
          { s.store.setSeg g { state := if fill < 256 then .partly else .full, fill := fill } with
            mem := s.store.mem.writeAll (256 * g.val + x.fill) data }).replied f (.good [Word.ofNat fill]) := by
  simp only [loadWordsTo, finish_checked_cons, finish_checked_nil, finish_mk, State.dequeue_store, inRange_iff,
    StoreMode.beq_normal, Segment.not_busy_iff, bne_iff_ne]
  refine ite_pass_eq_ite_refuse (by omega) fun _ => ?_
  refine ite_pass_eq_ite_refuse Iff.rfl fun _ => ?_
  refine ite_pass_eq_ite_refuse Iff.rfl fun _ => ?_
  refine ite_pass_eq_ite_refuse Iff.rfl fun _ => ?_
  refine ite_pass_eq_ite_refuse (decide_eq_true_iff.trans Nat.not_lt.symm) fun _ => ?_
  rw [loadedState_of_pos (Nat.le_add_left_of_le hlow)]
  rfl

/-! ## READ_SEGMENT -/

theorem readSegmentAct_of_length {ws : List Word} (h : ws.length ≠ 3) (s : State) :
    readSegmentAct ws s = badLength s := by
  unfold readSegmentAct
  split
  · exact absurd rfl h
  · rfl

/-- The code of a segment that is neither in the clear machine nor FAULTED (R68). -/
theorem SegState.code_of_loaded {x : SegState} (hqueued : x ≠ .clearQueued) (hclearing : x ≠ .clearing)
    (hfaulted : x ≠ .faulted) : Word.ofNat x.code = if x = .blank then 0 else if x = .partly then 1 else 2 := by
  cases x with
  | blank => rfl
  | partly => rfl
  | full => rfl
  | clearQueued => exact absurd rfl hqueued
  | clearing => exact absurd rfl hclearing
  | faulted => exact absurd rfl hfaulted

/-- READ_SEGMENT's answer in each segment state (R71). -/
theorem replied_readSegmentAnswer {st : Store} {g : Fin 64}
    (hbusy : ¬ ((st.seg g).state = .clearQueued ∨ (st.seg g).state = .clearing)) (off : Word) (count : Nat) (t : State)
    (f : ControlFrame) :
    t.replied f (readSegmentAnswer st g off.toNat count) =
      let x := st.seg g
      if x.state = .faulted then t.replied f (.good [5, 0])
      else if x.state = .blank ∧ off = 0 then t.replied f (.good [0, 0])
      else if off.toNat < x.fill then
        t.replied f (.good <|
          [if x.state = .blank then 0 else if x.state = .partly then 1 else 2, Word.ofNat x.fill]
            ++ (List.range (min count (x.fill - off.toNat))).map (fun k => st.mem.read (256 * g.val + off.toNat + k)))
      else t.replied f (.fail .outOfRange) := by
  obtain ⟨hqueued, hclearing⟩ := not_or.mp hbusy
  have hzero : off.toNat = 0 ↔ off = 0 := BitVec.toNat_inj (y := 0#32)
  simp only [readSegmentAnswer, hzero, apply_ite (t.replied f)]
  refine ite_congr rfl (fun hfaulted => ?_) fun hfaulted => ite_congr rfl (fun hblank => ?_) fun _ => ?_
  · rw [hfaulted]
    rfl
  · rw [hblank.1]
    rfl
  · rw [SegState.code_of_loaded hqueued hclearing hfaulted]
    rfl

/-- R71's checks in order, and its answer. -/
theorem finish_readSegmentAct (w off count : Word) (s : State) (f : ControlFrame) (rest : List ControlFrame) :
    finish f (readSegmentAct [w, off, count] (s.dequeue rest)) =
      if 63 < w.toNat ∨ 255 < off.toNat ∨ count.toNat < 1 ∨ 64 < count.toNat then s.refuses f rest .outOfRange
      else if (s.store.seg (index 64 w)).state = .clearQueued ∨ (s.store.seg (index 64 w)).state = .clearing then
        s.refuses f rest .segmentBusy
      else (s.dequeue rest).replied f (readSegmentAnswer s.store (index 64 w) off.toNat count.toNat) := by
  simp only [readSegmentAct, finish_checked_cons, finish_checked_nil, finish_mk, State.dequeue_store, inRange_iff,
    Segment.not_busy_iff, ← ite_and]
  refine ite_pass_eq_ite_refuse (by omega) fun _ => ?_
  exact ite_pass_eq_ite_refuse Iff.rfl fun _ => rfl

/-- Settles O41, by the checks of each command in order; the words of a load are those of the store's write law. -/
theorem loadWordsAndReadSegment : Obligations.LoadWordsAndReadSegment := by
  unfold Obligations.LoadWordsAndReadSegment
  refine ⟨fun s f rest h => ⟨fun w data hargs hlow hhigh => ?_, fun hlen => ?_⟩,
    fun m a data hwf hroom b => Memory.read_writeAll hroom hwf,
    fun s f rest h => ⟨fun w off count hargs => ?_, fun hlen => ?_⟩⟩
  · have hexec : exec .loadWords s = .next (finish f (loadWordsAct (w :: data) (s.dequeue rest))) :=
      hargs ▸ h.exec_eq (row := .loadWords) rfl loadWordsAct
    rw [hexec, loadWordsAct_cons hlow hhigh, finish_loadWordsTo hlow]
    rfl
  · have hexec : exec .loadWords s = .next (finish f (loadWordsAct f.args (s.dequeue rest))) :=
      h.exec_eq (row := .loadWords) rfl loadWordsAct
    rw [hexec, loadWordsAct_of_length hlen, finish_badLength]
  · have hexec : exec .readSegment s = .next (finish f (readSegmentAct [w, off, count] (s.dequeue rest))) :=
      hargs ▸ h.exec_eq (row := .readSegment) rfl readSegmentAct
    rw [hexec, finish_readSegmentAct]
    exact congrArg _ (ite_congr rfl (fun _ => rfl) fun _ => ite_congr rfl (fun _ => rfl) fun hbusy =>
      replied_readSegmentAnswer hbusy off count.toNat (s.dequeue rest) f)
  · have hexec : exec .readSegment s = .next (finish f (readSegmentAct f.args (s.dequeue rest))) :=
      h.exec_eq (row := .readSegment) rfl readSegmentAct
    rw [hexec, readSegmentAct_of_length hlen, finish_badLength]

end Sys2Proof.Machine
end

section
/-! SUPPORT. CLEAR_SEGMENT (R72, R73) and WIPE_STORE (R76), and the mask of patterns they answer. -/

namespace Sys2Proof.Machine

/-! ## The mask -/

theorem getLsbD_one_shiftLeft (k : Fin 32) (p : Nat) : ((1 : Word) <<< k.val).getLsbD p = (k.val == p) := by
  have hk := k.isLt
  rw [Bool.eq_iff_iff, beq_iff_eq, BitVec.getLsbD_shiftLeft, BitVec.ofNat_eq_ofNat]
  simp only [BitVec.getLsbD_one, Bool.and_eq_true, decide_eq_true_eq, Bool.not_eq_true', decide_eq_false_iff_not]
  omega

/-- A word gains the bits of the patterns a list names that satisfy `q`. -/
theorem getLsbD_foldl_mask (q : Fin 32 → Bool) (l : List (Fin 32)) (m : Word) (p : Nat) :
    (l.foldl (fun m k => if q k then m ||| ((1 : Word) <<< k.val) else m) m).getLsbD p =
      (m.getLsbD p || l.any fun k => q k && k.val == p) := by
  induction l generalizing m with
  | nil => rw [List.foldl_nil, List.any_nil, Bool.or_false]
  | cons k l ih =>
    have hstep : (if q k then m ||| ((1 : Word) <<< k.val) else m).getLsbD p =
        (m.getLsbD p || (q k && k.val == p)) := by
      cases q k with
      | false => exact (Bool.or_false _).symm
      | true => rw [if_pos rfl, BitVec.getLsbD_or, getLsbD_one_shiftLeft, Bool.true_and]
    rw [List.foldl_cons, ih, hstep, List.any_cons, Bool.or_assoc]

/-- Bit p of the mask says whether pattern p satisfies `q` (R73, R76). -/
theorem getLsbD_patternMask (st : Store) (q : Pattern → Bool) (p : Nat) :
    (patternMask st q).getLsbD p = if h : p < 32 then q (st.pattern ⟨p, h⟩) else false := by
  rw [patternMask, getLsbD_foldl_mask fun k => q (st.pattern k), BitVec.ofNat_eq_ofNat, BitVec.getLsbD_zero,
    Bool.false_or, Bool.eq_iff_iff, List.any_eq_true]
  split
  case isTrue h =>
    refine ⟨fun ⟨k, _, hk⟩ => ?_, fun hq => ⟨⟨p, h⟩, mem_indexes _, by rw [hq, beq_self_eq_true]; rfl⟩⟩
    obtain ⟨hq, hp⟩ := Bool.and_eq_true_iff.mp hk
    obtain rfl := beq_iff_eq.mp hp
    exact hq
  case isFalse h =>
    refine ⟨fun ⟨k, _, hk⟩ => ?_, nofun⟩
    obtain ⟨-, hp⟩ := Bool.and_eq_true_iff.mp hk
    exact absurd (beq_iff_eq.mp hp ▸ k.isLt) h

/-! ## CLEAR_SEGMENT -/

variable {s : State} {f : ControlFrame} {rest : List ControlFrame}

theorem clearSegmentAct_of_length {ws : List Word} (h : ws.length ≠ 1) (s : State) :
    clearSegmentAct ws s = badLength s := by
  unfold clearSegmentAct
  split
  · exact absurd rfl h
  · rfl

theorem Pattern.covers_iff (e : Pattern) (g : Fin 64) :
    e.covers g = true ↔ e.ready = true ∧ e.first.val ≤ g.val ∧ g.val < e.first.val + (e.len + 255) / 256 := by
  rw [Pattern.covers, Bool.and_eq_true, Bool.and_eq_true, decide_eq_true_iff, decide_eq_true_iff, and_assoc]
  rfl

theorem Store.not_coveredBy_iff (st : Store) (g : Fin 64) (q : Pattern → Bool) :
    (!st.coveredBy g q) = true ↔ ¬ ∃ p, (st.pattern p).covers g = true ∧ q (st.pattern p) = true := by
  rw [Bool.not_eq_true', Store.coveredBy_eq_false]
  simp only [not_exists, not_and, Bool.not_eq_true]

/-- The segment is cleared at once when the machine is idle, and queued otherwise (R73). -/
theorem Store.beginClear_eq (st : Store) (g : Fin 64) :
    st.beginClear g =
      { st with
        segs := st.segs.set g { state := if st.clearing = none then .clearing else .clearQueued, fill := 0 }
        clearing := if st.clearing = none then some g else st.clearing
        clearQueue := if st.clearing = none then st.clearQueue else st.clearQueue ++ [g] } := by
  obtain ⟨segs, mem, mode, clearing, queue, patterns⟩ := st
  cases clearing <;> rfl

/-- R72's checks in order, and what an accepted CLEAR_SEGMENT leaves and answers (R73). -/
theorem finish_clearSegmentAct (w : Word) (s : State) (f : ControlFrame) (rest : List ControlFrame) :
    finish f (clearSegmentAct [w] (s.dequeue rest)) =
      let g := index 64 w
      let x := s.store.seg g
      if 63 < w.toNat then s.refuses f rest .outOfRange
      else if s.store.mode = .wiping then s.refuses f rest .storeBusy
      else if x.state = .clearQueued ∨ x.state = .clearing then s.refuses f rest .alreadyClearing
      else if ∃ p, (s.store.pattern p).covers g = true ∧ (s.store.pattern p).frozen = true then
        s.refuses f rest .frozen
      else if ∃ p, (s.store.pattern p).covers g = true ∧ 0 < (s.store.pattern p).uses then s.refuses f rest .pinned
      else if s.store.clearing ≠ none ∧ 4 ≤ s.store.clearQueue.length then s.refuses f rest .queueFull
      else
        ((s.dequeue rest).setStore ((s.store.undefineOver g).beginClear g)).replied f
          (.begun [patternMask s.store (fun e => e.covers g)]) := by
  simp only [clearSegmentAct, finish_checked_cons, finish_checked_nil, finish_mk, State.dequeue_store, inRange_iff,
    StoreMode.beq_normal, Segment.not_busy_iff, Store.not_coveredBy_iff, decide_eq_true_eq, Bool.or_eq_true,
    Option.isNone_iff_eq_none]
  refine ite_pass_eq_ite_refuse (by omega) fun _ => ?_
  refine ite_pass_eq_ite_refuse Iff.rfl fun _ => ?_
  refine ite_pass_eq_ite_refuse Iff.rfl fun _ => ?_
  refine ite_pass_eq_ite_refuse Iff.rfl fun _ => ?_
  refine ite_pass_eq_ite_refuse Iff.rfl fun _ => ?_
  have hplace : s.store.clearing = none ∨ decide (s.store.clearQueue.length < Config.clearCapacity) = true ↔
      ¬ (s.store.clearing ≠ none ∧ 4 ≤ s.store.clearQueue.length) := by
    rw [decide_eq_true_iff, not_and_or, not_not, Nat.not_le]
  exact ite_pass_eq_ite_refuse hplace fun _ => rfl

/-! ## WIPE_STORE -/

theorem wipeStoreAct_cons (w : Word) (ws : List Word) (s : State) : wipeStoreAct (w :: ws) s = badLength s := rfl

theorem Store.unused_iff (st : Store) :
    (!(indexes 32).any fun k => decide (0 < (st.pattern k).uses)) = true ↔ ¬ ∃ p, 0 < (st.pattern p).uses := by
  simp

/-- R76's checks in order, and what an accepted WIPE_STORE leaves and answers. -/
theorem finish_wipeStoreAct (s : State) (f : ControlFrame) (rest : List ControlFrame) :
    finish f (wipeStoreAct [] (s.dequeue rest)) =
      if s.store.mode = .wiping then s.refuses f rest .storeBusy
      else if ∃ p, 0 < (s.store.pattern p).uses then s.refuses f rest .pinned
      else
        ((s.dequeue rest).setStore s.store.beginWipe).replied f (.begun [patternMask s.store (fun e => e.ready)]) := by
  simp only [wipeStoreAct, finish_checked_cons, finish_checked_nil, finish_mk, State.dequeue_store,
    StoreMode.beq_normal]
  refine ite_pass_eq_ite_refuse Iff.rfl fun _ => ?_
  exact ite_pass_eq_ite_refuse (Store.unused_iff s.store) fun _ => rfl

/-- Settles O42, by the checks of each command in order, with the span of a READY pattern in the statement's words. -/
theorem clearSegmentAndWipeStore : Obligations.ClearSegmentAndWipeStore := by
  unfold Obligations.ClearSegmentAndWipeStore
  refine ⟨fun s f rest h => ⟨fun w hargs => ?_, fun hlen => ?_⟩, fun s f rest h => ⟨fun hargs => ?_, fun hargs => ?_⟩,
    getLsbD_patternMask⟩
  · have hexec : exec .clearSegment s = .next (finish f (clearSegmentAct [w] (s.dequeue rest))) :=
      hargs ▸ h.exec_eq (row := .clearSegment) rfl clearSegmentAct
    intro g x overlies
    have hcovers (e : Pattern) : e.covers g = true ↔ overlies e := e.covers_iff g
    have hmask : (fun e : Pattern => e.covers g) = fun e => decide (overlies e) := funext fun e => by
      rw [Bool.eq_iff_iff, hcovers, decide_eq_true_iff]
    have hundefined : s.store.undefineOver g =
        { s.store with
          patterns := tableMap (fun e => if overlies e then { e with ready := false } else e) s.store.patterns } :=
      congrArg (fun change => { s.store with patterns := tableMap change s.store.patterns })
        (funext fun e => if_congr (hcovers e) rfl rfl)
    rw [hexec, finish_clearSegmentAct]
    refine congrArg _ (if_congr Iff.rfl rfl (if_congr Iff.rfl rfl (if_congr Iff.rfl rfl ?_)))
    refine if_congr (exists_congr fun p => and_congr_left' (hcovers _)) rfl ?_
    refine if_congr (exists_congr fun p => and_congr_left' (hcovers _)) rfl (if_congr Iff.rfl rfl ?_)
    rw [hmask, hundefined, Store.beginClear_eq]
    rfl
  · have hexec : exec .clearSegment s = .next (finish f (clearSegmentAct f.args (s.dequeue rest))) :=
      h.exec_eq (row := .clearSegment) rfl clearSegmentAct
    rw [hexec, clearSegmentAct_of_length hlen, finish_badLength]
  · have hexec : exec .wipeStore s = .next (finish f (wipeStoreAct [] (s.dequeue rest))) :=
      hargs ▸ h.exec_eq (row := .wipeStore) rfl wipeStoreAct
    rw [hexec, finish_wipeStoreAct, Store.beginWipe, tableMap_const]
    rfl
  · obtain ⟨w, ws, hcons⟩ := List.exists_cons_of_ne_nil hargs
    have hexec : exec .wipeStore s = .next (finish f (wipeStoreAct (w :: ws) (s.dequeue rest))) :=
      hcons ▸ h.exec_eq (row := .wipeStore) rfl wipeStoreAct
    rw [hexec, wipeStoreAct_cons, finish_badLength]

end Sys2Proof.Machine
end

section
/-! SUPPORT. DEFINE_PATTERN (R79), UNDEFINE_PATTERN (R80), FREEZE_PATTERN (R81) and READ_PATTERN (R82). -/

namespace Sys2Proof.Machine

variable {s : State} {f : ControlFrame} {rest : List ControlFrame}

/-! ## Argument counts -/

theorem definePatternAct_of_length {ws : List Word} (h : ws.length ≠ 3) (s : State) :
    definePatternAct ws s = badLength s := by
  unfold definePatternAct
  split
  · exact absurd rfl h
  · rfl

theorem undefinePatternAct_of_length {ws : List Word} (h : ws.length ≠ 1) (s : State) :
    undefinePatternAct ws s = badLength s := by
  unfold undefinePatternAct
  split
  · exact absurd rfl h
  · rfl

theorem freezePatternAct_of_length {ws : List Word} (h : ws.length ≠ 1) (s : State) :
    freezePatternAct ws s = badLength s := by
  unfold freezePatternAct
  split
  · exact absurd rfl h
  · rfl

theorem readPatternAct_of_length {ws : List Word} (h : ws.length ≠ 1) (s : State) :
    readPatternAct ws s = badLength s := by
  unfold readPatternAct
  split
  · exact absurd rfl h
  · rfl

/-! ## The span of a definition -/

/-- The span lies in the store, its segments but the last are FULL, and the last holds the words that remain (R79). -/
theorem Store.spanValid_iff (st : Store) (first : Fin 64) (len : Nat) :
    st.spanValid first len = true ↔
      first.val + (len + 255) / 256 ≤ 64
        ∧ (∀ g : Fin 64, first.val ≤ g.val → g.val + 1 < first.val + (len + 255) / 256 → (st.seg g).state = .full)
        ∧ ∀ g : Fin 64, g.val + 1 = first.val + (len + 255) / 256 →
            ((st.seg g).state = .partly ∨ (st.seg g).state = .full)
              ∧ len - 256 * ((len + 255) / 256 - 1) ≤ (st.seg g).fill := by
  have hspan : spanOf len = (len + 255) / 256 := rfl
  rw [Store.spanValid, Bool.and_eq_true, decide_eq_true_iff, List.all_eq_true, hspan]
  refine and_congr_right' ⟨fun h => ⟨fun g hlow hhigh => ?_, fun g hlast => ?_⟩, fun ⟨hfull, hlast⟩ g _ => ?_⟩
  · have hg := h g (mem_indexes g)
    rw [if_pos ⟨hlow, hhigh⟩] at hg
    exact beq_iff_eq.mp hg
  · have hg := h g (mem_indexes g)
    rw [if_neg (by omega), if_pos hlast, Bool.and_eq_true, Bool.or_eq_true, beq_iff_eq, beq_iff_eq,
      decide_eq_true_iff] at hg
    exact hg
  · split_ifs with hinner hend
    · exact beq_iff_eq.mpr (hfull g hinner.1 hinner.2)
    · rw [Bool.and_eq_true, Bool.or_eq_true, beq_iff_eq, beq_iff_eq, decide_eq_true_iff]
      exact hlast g hend
    · rfl

/-! ## The commands -/

/-- R79's checks in order, and the entry an accepted DEFINE_PATTERN leaves. -/
theorem finish_definePatternAct (wp wf wl : Word) (s : State) (f : ControlFrame) (rest : List ControlFrame) :
    finish f (definePatternAct [wp, wf, wl] (s.dequeue rest)) =
      let p := index 32 wp
      let e := s.store.pattern p
      if 31 < wp.toNat ∨ 63 < wf.toNat ∨ wl.toNat < 1 ∨ 16384 < wl.toNat then s.refuses f rest .outOfRange
      else if e.frozen = true then s.refuses f rest .frozen
      else if e.uses ≠ 0 then s.refuses f rest .pinned
      else if s.store.mode = .wiping then s.refuses f rest .storeBusy
      else if ¬ s.store.spanValid (index 64 wf) wl.toNat = true then s.refuses f rest .spanInvalid
      else
        ((s.dequeue rest).setStore (s.store.setPattern p
          { e with ready := true, first := index 64 wf, len := wl.toNat })).replied f (.good []) := by
  simp only [definePatternAct, finish_checked_cons, finish_checked_nil, finish_mk, State.dequeue_store, inRange_iff,
    StoreMode.beq_normal, Bool.not_eq_true', ← ite_and]
  refine ite_pass_eq_ite_refuse (by omega) fun _ => ?_
  refine ite_pass_eq_ite_refuse Bool.eq_false_iff fun _ => ?_
  refine ite_pass_eq_ite_refuse (beq_iff_eq.trans not_not.symm) fun _ => ?_
  refine ite_pass_eq_ite_refuse Iff.rfl fun _ => ?_
  exact ite_pass_eq_ite_refuse not_not.symm fun _ => rfl

/-- R80's checks in order, and the entry an accepted UNDEFINE_PATTERN leaves. -/
theorem finish_undefinePatternAct (wp : Word) (s : State) (f : ControlFrame) (rest : List ControlFrame) :
    finish f (undefinePatternAct [wp] (s.dequeue rest)) =
      let p := index 32 wp
      let e := s.store.pattern p
      if 31 < wp.toNat then s.refuses f rest .outOfRange
      else if e.frozen = true then s.refuses f rest .frozen
      else if e.uses ≠ 0 then s.refuses f rest .pinned
      else ((s.dequeue rest).setStore (s.store.setPattern p { e with ready := false })).replied f (.good []) := by
  simp only [undefinePatternAct, finish_checked_cons, finish_checked_nil, finish_mk, State.dequeue_store, inRange_iff,
    Bool.not_eq_true']
  refine ite_pass_eq_ite_refuse (by omega) fun _ => ?_
  refine ite_pass_eq_ite_refuse Bool.eq_false_iff fun _ => ?_
  exact ite_pass_eq_ite_refuse (beq_iff_eq.trans not_not.symm) fun _ => rfl

/-- R81's checks in order, and the entry an accepted FREEZE_PATTERN leaves. -/
theorem finish_freezePatternAct (wp : Word) (s : State) (f : ControlFrame) (rest : List ControlFrame) :
    finish f (freezePatternAct [wp] (s.dequeue rest)) =
      let p := index 32 wp
      let e := s.store.pattern p
      if 31 < wp.toNat then s.refuses f rest .outOfRange
      else if e.ready = false then s.refuses f rest .notReady
      else ((s.dequeue rest).setStore (s.store.setPattern p { e with frozen := true })).replied f (.good []) := by
  simp only [freezePatternAct, finish_checked_cons, finish_checked_nil, finish_mk, State.dequeue_store, inRange_iff]
  refine ite_pass_eq_ite_refuse (by omega) fun _ => ?_
  exact ite_pass_eq_ite_refuse (Bool.not_eq_false _).symm.to_iff fun _ => rfl

theorem Word.ofNat_one (b : Bool) : Word.ofNat (one b) = if b then 1 else 0 := by
  cases b <;> rfl

/-- R82's check, and the six words of READ_PATTERN. -/
theorem finish_readPatternAct (wp : Word) (s : State) (f : ControlFrame) (rest : List ControlFrame) :
    finish f (readPatternAct [wp] (s.dequeue rest)) =
      if 31 < wp.toNat then s.refuses f rest .outOfRange
      else (s.dequeue rest).replied f (.good (patternWords (s.store.pattern (index 32 wp)))) := by
  simp only [readPatternAct, finish_checked_cons, finish_checked_nil, finish_mk, State.dequeue_store, inRange_iff]
  exact ite_pass_eq_ite_refuse (by omega) fun _ => rfl

/-- Settles O43, by the checks of each command in order, with a definition's span in the statement's words. -/
theorem patternTableCommands : Obligations.PatternTableCommands := by
  unfold Obligations.PatternTableCommands
  refine ⟨fun s f rest h => ⟨fun wp wf wl hargs => ?_, fun hlen => ?_⟩,
    fun s f rest h => ⟨fun wp hargs => ?_, fun hlen => ?_⟩, fun s f rest h => ⟨fun wp hargs => ?_, fun hlen => ?_⟩,
    fun s f rest h => ⟨fun wp hargs => ?_, fun hlen => ?_⟩⟩
  · have hexec : exec .definePattern s = .next (finish f (definePatternAct [wp, wf, wl] (s.dequeue rest))) :=
      hargs ▸ h.exec_eq (row := .definePattern) rfl definePatternAct
    rw [hexec, finish_definePatternAct]
    refine congrArg _ (ite_congr rfl (fun _ => rfl) fun hrange => ?_)
    refine if_congr Iff.rfl rfl (if_congr Iff.rfl rfl (if_congr Iff.rfl rfl (if_congr (not_congr ?_) rfl rfl)))
    have hfirst : (index 64 wf).val = wf.toNat := index_val (by omega)
    rw [Store.spanValid_iff, hfirst]
  · have hexec : exec .definePattern s = .next (finish f (definePatternAct f.args (s.dequeue rest))) :=
      h.exec_eq (row := .definePattern) rfl definePatternAct
    rw [hexec, definePatternAct_of_length hlen, finish_badLength]
  · have hexec : exec .undefinePattern s = .next (finish f (undefinePatternAct [wp] (s.dequeue rest))) :=
      hargs ▸ h.exec_eq (row := .undefinePattern) rfl undefinePatternAct
    rw [hexec, finish_undefinePatternAct]
  · have hexec : exec .undefinePattern s = .next (finish f (undefinePatternAct f.args (s.dequeue rest))) :=
      h.exec_eq (row := .undefinePattern) rfl undefinePatternAct
    rw [hexec, undefinePatternAct_of_length hlen, finish_badLength]
  · have hexec : exec .freezePattern s = .next (finish f (freezePatternAct [wp] (s.dequeue rest))) :=
      hargs ▸ h.exec_eq (row := .freezePattern) rfl freezePatternAct
    rw [hexec, finish_freezePatternAct]
  · have hexec : exec .freezePattern s = .next (finish f (freezePatternAct f.args (s.dequeue rest))) :=
      h.exec_eq (row := .freezePattern) rfl freezePatternAct
    rw [hexec, freezePatternAct_of_length hlen, finish_badLength]
  · have hexec : exec .readPattern s = .next (finish f (readPatternAct [wp] (s.dequeue rest))) :=
      hargs ▸ h.exec_eq (row := .readPattern) rfl readPatternAct
    rw [hexec, finish_readPatternAct, patternWords, Word.ofNat_one, Word.ofNat_one]
    rfl
  · have hexec : exec .readPattern s = .next (finish f (readPatternAct f.args (s.dequeue rest))) :=
      h.exec_eq (row := .readPattern) rfl readPatternAct
    rw [hexec, readPatternAct_of_length hlen, finish_badLength]

end Sys2Proof.Machine
end

section
/-! SUPPORT. Error injection and the build of a test frame (R93 to R97). -/

namespace Sys2Proof.Machine

/-! ## Flips -/

/-- Two advances of a saturating counter are one advance by their sum (R16). -/
theorem satAdd_satAdd {w : Nat} (c : BitVec w) (a b : Nat) : satAdd (satAdd c a) b = satAdd c (a + b) := by
  apply BitVec.eq_of_toNat_eq
  rw [satAdd_toNat, satAdd_toNat, satAdd_toNat]
  omega

/-- The word with `n` bits in a row inverted, from the one the rotor names (R95). -/
def flippedWord (rotor : BitVec 5) (n : Nat) (w : Word) : Word :=
  (List.range n).foldl (fun x k => x ^^^ ((1 : Word) <<< (rotor + BitVec.ofNat 5 k).toNat)) w

/-- `n` flips in a row (R95). -/
def flips (n : Nat) (g : Generator) (w : Word) : Generator × Word :=
  ({ g with rotor := g.rotor + BitVec.ofNat 5 n, bitsInjected := satAdd g.bitsInjected n }, flippedWord g.rotor n w)

theorem flips_zero (g : Generator) (w : Word) : flips 0 g w = (g, w) := by
  have hrotor : g.rotor + BitVec.ofNat 5 0 = g.rotor := BitVec.add_zero _
  rw [flips, satAdd_zero, hrotor]
  rfl

theorem flips_one (g : Generator) (w : Word) : flips 1 g w = flip g w := by
  have hrotor : g.rotor + BitVec.ofNat 5 0 = g.rotor := BitVec.add_zero _
  have hword : flippedWord g.rotor 1 w = w ^^^ ((1 : Word) <<< (g.rotor + BitVec.ofNat 5 0).toNat) := rfl
  rw [flips, hword, hrotor]
  rfl

/-- Flips of one source go on where those of another stopped. -/
theorem flippedWord_add (rotor : BitVec 5) (m n : Nat) (w : Word) :
    flippedWord (rotor + BitVec.ofNat 5 m) n (flippedWord rotor m w) = flippedWord rotor (m + n) w := by
  simp only [flippedWord, List.range_add, List.foldl_append, List.foldl_map, BitVec.ofNat_add, BitVec.add_assoc]

theorem flips_add (m n : Nat) (g : Generator) (w : Word) :
    flips n (flips m g w).1 (flips m g w).2 = flips (m + n) g w := by
  simp only [flips, flippedWord_add, satAdd_satAdd, BitVec.ofNat_add, BitVec.add_assoc]

/-! ## The three sources -/

/-- The flips of the rate source at one offered word: one at the end of its countdown, and with N = 0 none (R96). -/
def Generator.rateStrikes (g : Generator) : Nat := if g.interval ≠ 0 ∧ g.injCountdown ≤ 1 then 1 else 0

/-- The rate source's fields after one offered word: a strike reloads the countdown with N and the phase's dither and steps
the phase, and with N = 0 nothing counts down (R96). -/
def Generator.rateStepped (g : Generator) : Generator :=
  { g with
    injCountdown :=
      if g.interval ≠ 0 ∧ g.injCountdown ≤ 1 then
        g.interval + (if g.ditherMask.getLsbD g.ditherPhase.toNat then 1 else 0)
      else if g.interval = 0 then g.injCountdown
      else g.injCountdown - 1
    ditherPhase := if g.interval ≠ 0 ∧ g.injCountdown ≤ 1 then g.ditherPhase + 1 else g.ditherPhase }

theorem rateSource_eq (g : Generator) (w : Word) : rateSource g w = flips g.rateStrikes g.rateStepped w := by
  unfold rateSource Generator.rateStrikes Generator.rateStepped
  by_cases hstrikes : g.interval ≠ 0 ∧ g.injCountdown ≤ 1
  · have ⟨hon, hends⟩ := hstrikes
    have hzero : g.injCountdown - 1 = 0 := by omega
    simp only [if_pos hstrikes, if_neg hon, if_pos hzero, flips_one]
    rfl
  · simp only [if_neg hstrikes, flips_zero]
    split
    case isTrue => rfl
    case isFalse hon => rw [if_neg (by omega)]

/-- The single request strikes the word it is offered and is used up (R97). -/
theorem singleSource_eq (g : Generator) (w : Word) :
    singleSource g w = flips (if g.single then 1 else 0) { g with single := false } w := by
  unfold singleSource
  split
  case isTrue => rw [flips_one]
  case isFalse h =>
    rw [flips_zero]
    exact congrArg (fun b => ({ g with single := b }, w)) (Bool.eq_false_iff.mpr h)

/-- A burst strikes every word it is offered until it is used up (R97). -/
theorem burstSource_eq (g : Generator) (w : Word) :
    burstSource g w = flips (if g.burst ≠ 0 then 1 else 0) { g with burst := g.burst - 1 } w := by
  unfold burstSource
  by_cases h : g.burst = 0
  · have hstays : g.burst = g.burst - 1 := by omega
    rw [if_pos h, if_neg (not_not.mpr h), flips_zero]
    exact congrArg (fun n => ({ g with burst := n }, w)) hstays
  · rw [if_neg h, if_pos h, flips_one]

/-- One word offered to the three sources: as many flips in a row as sources strike (R95). -/
theorem injectWord_eq (g : Generator) (w : Word) :
    injectWord g w =
      flips (g.rateStrikes + (if g.single then 1 else 0) + (if g.burst ≠ 0 then 1 else 0))
        { g.rateStepped with single := false, burst := g.burst - 1 } w := by
  rw [injectWord, rateSource_eq, singleSource_eq, burstSource_eq, ← flips_add, ← flips_add]
  rfl

/-! ## The words of a frame -/

theorem injectWords_length (g : Generator) (ws : List Word) : (injectWords g ws).2.length = ws.length := by
  induction ws generalizing g with
  | nil => rfl
  | cons w ws ih => rw [injectWords, List.length_cons, ih, List.length_cons]

/-! ## RATE_INJECTION -/

theorem exec_rateInjection {s : State} {i : Fin 256} (hrun : s.inReset = false)
    (hstate : (s.stream i).gen.state = .running) (hon : (s.stream i).gen.interval ≠ 0)
    (hstrikes : (s.stream i).gen.injCountdown = 1) (w : Word) :
    exec (.rateInjection i w) s =
      .next { s.setGen i (rateFlip (s.stream i).gen w).1 with injected := (rateFlip (s.stream i).gen w).2 } := by
  simp [exec, execRateInjection, hrun, hstate, hon, hstrikes]

theorem exec_rateInjection_of_not {s : State} {i : Fin 256}
    (h : (s.stream i).gen.state ≠ .running ∨ (s.stream i).gen.interval = 0 ∨ 1 < (s.stream i).gen.injCountdown)
    (w : Word) : exec (.rateInjection i w) s = .next s := by
  refine if_neg fun hstrikes => ?_
  simp only [Bool.and_eq_true, beq_iff_eq, bne_iff_ne] at hstrikes
  obtain ⟨⟨⟨-, hstate⟩, hon⟩, hcountdown⟩ := hstrikes
  obtain hstate' | hoff | hgt := h
  · exact hstate' hstate
  · exact hon hoff
  · omega

/-- Settles O15: the build by its definition, the three sources as flips in a row, the strike of the rate source. -/
theorem testFrameBuildAndInjection : Obligations.TestFrameBuildAndInjection := by
  unfold Obligations.TestFrameBuildAndInjection
  refine ⟨fun s i => ⟨rfl, rfl, ?_⟩, fun g w => ?_, fun _ => rfl, fun _ _ _ => rfl,
    fun s i w h => exec_rateInjection_of_not h w,
    fun s i w hrun hstate hon hstrikes => exec_rateInjection hrun hstate hon hstrikes w⟩
  · rw [injectWords_length, takeWords_length]
  · rw [injectWord_eq]
    exact ⟨rfl, rfl⟩

end Sys2Proof.Machine
end

section
/-! SUPPORT. Pacing (R89, R91). -/

namespace Sys2Proof.Machine

variable {s : State} {i j : Fin 256}

/-! ## One generator's step -/

/-- A RUNNING generator after one pacing step, with P the stream's pacing (R89, R91). -/
def Generator.paced (g : Generator) (p : Nat) : Generator :=
  if g.countdown ≤ 1 then
    if g.due then { g with countdown := p, paceSlips := satAdd g.paceSlips 1 } else { g with countdown := p, due := true }
  else { g with countdown := g.countdown - 1 }

theorem paceStream_of_gt (h : 1 < (s.stream i).gen.countdown) :
    paceStream s i = s.setGen i { (s.stream i).gen with countdown := (s.stream i).gen.countdown - 1 } :=
  if_neg (by omega)

theorem paceStream_of_le (h : (s.stream i).gen.countdown ≤ 1) : paceStream s i = pacingReload s i :=
  if_pos (by omega)

theorem pacingReload_of_due (h : (s.stream i).gen.due = true) :
    pacingReload s i =
      (s.setGen i
        { (s.stream i).gen with
          countdown := (s.stream i).config.pacing
          paceSlips := satAdd (s.stream i).gen.paceSlips 1 }).raiseStream i .paceSlip :=
  if_pos h

theorem pacingReload_of_not_due (h : ¬ (s.stream i).gen.due = true) :
    pacingReload s i = s.setGen i { (s.stream i).gen with countdown := (s.stream i).config.pacing, due := true } :=
  if_neg h

/-- A pacing step puts the stepped generator in place, with a PACE_SLIP raise where it expires due (R89, R91). -/
theorem paceStream_cases (s : State) (i : Fin 256) :
    paceStream s i = s.setGen i ((s.stream i).gen.paced (s.stream i).config.pacing)
      ∨ paceStream s i = (s.setGen i ((s.stream i).gen.paced (s.stream i).config.pacing)).raiseStream i .paceSlip := by
  unfold Generator.paced
  split
  case isTrue hle =>
    rw [paceStream_of_le hle]
    split
    case isTrue hdue => exact .inr (pacingReload_of_due hdue)
    case isFalse hdue => exact .inl (pacingReload_of_not_due hdue)
  case isFalse hgt => exact .inl (paceStream_of_gt (by omega))

theorem stream_setGen_eq (s : State) (i j : Fin 256) (g : Generator) :
    (s.setGen i g).stream j = { s.stream j with gen := if i = j then g else (s.stream j).gen } := by
  rw [State.stream_setGen]
  split
  case isTrue h => rw [h]
  case isFalse => rfl

theorem paceStream_gen (s : State) (i j : Fin 256) :
    ((paceStream s i).stream j).gen =
      if i = j then (s.stream i).gen.paced (s.stream i).config.pacing else (s.stream j).gen := by
  obtain h | h := paceStream_cases s i
  · rw [h, stream_setGen_eq]
  · rw [h, State.raiseStream_stream_gen, stream_setGen_eq]

@[simp] theorem paceStream_config (s : State) (i j : Fin 256) :
    ((paceStream s i).stream j).config = (s.stream j).config := by
  obtain h | h := paceStream_cases s i
  · rw [h, stream_setGen_eq]
  · rw [h, State.raiseStream_stream_config, stream_setGen_eq]

@[simp] theorem paceStream_chk (s : State) (i j : Fin 256) : ((paceStream s i).stream j).chk = (s.stream j).chk := by
  obtain h | h := paceStream_cases s i
  · rw [h, stream_setGen_eq]
  · rw [h, State.raiseStream_stream_chk, stream_setGen_eq]

/-! ## A lane's step -/

/-- Generators paced one after another, none of them twice, each take one step of their own. -/
theorem foldl_paceStream_gen {order : List (Fin 256)} (h : order.Nodup) (s : State) (j : Fin 256) :
    ((order.foldl paceStream s).stream j).gen =
      if j ∈ order then (s.stream j).gen.paced (s.stream j).config.pacing else (s.stream j).gen := by
  induction order generalizing s with
  | nil => rfl
  | cons i order ih =>
    obtain ⟨hi, horder⟩ := List.nodup_cons.mp h
    rw [List.foldl_cons, ih horder, paceStream_config, paceStream_gen]
    by_cases hij : i = j
    · subst hij
      rw [if_neg hi, if_pos rfl, if_pos List.mem_cons_self]
    · simp only [if_neg hij, List.mem_cons, Ne.symm hij, false_or]

theorem mem_tableWhere_paces {l : Fin 16} :
    i ∈ tableWhere (fun r => r.paces l) s.streams ↔
      (s.stream i).gen.state = .running ∧ (s.stream i).config.egressLane = l := by
  rw [mem_tableWhere, Stream.paces, Bool.and_eq_true, beq_iff_eq, beq_iff_eq]
  rfl

theorem paceLane_gen (s : State) (l : Fin 16) (i : Fin 256) :
    ((paceLane s l).stream i).gen =
      if (s.stream i).gen.state = .running ∧ (s.stream i).config.egressLane = l then
        (s.stream i).gen.paced (s.stream i).config.pacing
      else (s.stream i).gen := by
  rw [paceLane, foldl_paceStream_gen (tableWhere_nodup _ _)]
  exact if_congr mem_tableWhere_paces rfl rfl

theorem paceLane_chk (s : State) (l : Fin 16) (i : Fin 256) : ((paceLane s l).stream i).chk = (s.stream i).chk :=
  List.foldlRecOn (motive := fun t => (t.stream i).chk = (s.stream i).chk) _ paceStream rfl
    fun t h k _ => (paceStream_chk t k i).trans h

/-! ## PACING_EXPIRY -/

theorem exec_pacingExpiry (hrun : s.inReset = false) (hstate : (s.stream i).gen.state = .running)
    (hexpires : (s.stream i).gen.countdown = 1) : exec (.pacingExpiry i) s = .next (pacingReload s i) := by
  rw [← paceStream_of_le hexpires.le]
  simp [exec, execPacingExpiry, hrun, hstate, hexpires]

theorem exec_pacingExpiry_of_not (h : (s.stream i).gen.state ≠ .running ∨ 1 < (s.stream i).gen.countdown) :
    exec (.pacingExpiry i) s = .next s := by
  refine if_neg fun hexpires => ?_
  simp only [Bool.and_eq_true, beq_iff_eq] at hexpires
  obtain ⟨⟨-, hstate⟩, hcountdown⟩ := hexpires
  obtain hstate' | hgt := h
  · exact hstate' hstate
  · omega

/-- Settles O14: an expiry reloads, due or not; a lane's step is the fold of its generators' steps in increasing index. -/
theorem pacingSteps : Obligations.PacingSteps := by
  unfold Obligations.PacingSteps
  refine ⟨fun s i hrun hstate hexpires => ⟨fun hdue => ?_, fun hdue => ?_⟩, fun s i => exec_pacingExpiry_of_not,
    fun s l => ⟨_, tableWhere_increasing _ _, fun i => mem_tableWhere_paces, ?_⟩,
    fun s l i => ⟨paceLane_gen s l i, paceLane_chk s l i, paceLane_lanes s l⟩⟩
  · rw [exec_pacingExpiry hrun hstate hexpires, pacingReload_of_not_due (Bool.eq_false_iff.mp hdue)]
  · rw [exec_pacingExpiry hrun hstate hexpires, pacingReload_of_due hdue]
  · refine congrArg (fun step => List.foldl step s _) (funext fun t => funext fun i => ?_)
    dsimp only
    split
    case isTrue hgt => exact paceStream_of_gt hgt
    case isFalse hle => exact paceStream_of_le (by omega)

end Sys2Proof.Machine
end

section
/-! SUPPORT. The lane arbiter (R92). -/

namespace Sys2Proof.Machine

/-! ## The circular order -/

/-- How far after the last-served stream a stream comes in the circular order, the next one being at 0 (R92). -/
def circularPlace (last i : Fin 256) : Nat := (i - last - 1).val

/-- The streams of greater index than the last-served one come first, then the others, both in increasing index. -/
theorem circularPlace_eq (last i : Fin 256) :
    circularPlace last i = if last < i then i.val - last.val - 1 else i.val + 255 - last.val := by
  have hi := i.isLt
  have hlast := last.isLt
  have hone : (1 : Fin 256).val = 1 := rfl
  simp only [circularPlace, Fin.sub_def, Fin.lt_def, hone]
  split <;> omega

theorem circularPlace_injective (last : Fin 256) : Function.Injective (circularPlace last) := fun _ _ h =>
  sub_left_injective (sub_left_injective (Fin.ext h))

/-! ## The due streams of a lane -/

/-- What a search of an increasing list finds comes before whatever else in the list satisfies the condition. -/
theorem le_of_find?_eq_some {α : Type} [Preorder α] {l : List α} {q : α → Bool} {i j : α} (hl : l.Pairwise (· < ·))
    (hi : l.find? q = some i) (hj : j ∈ l) (hq : q j = true) : i ≤ j := by
  obtain ⟨-, before, after, rfl, hbefore⟩ := List.find?_eq_some_iff_append.mp hi
  obtain ⟨-, hafter, -⟩ := List.pairwise_append.mp hl
  rcases List.mem_append.mp hj with hj | hj
  · exact absurd hq (by simpa using hbefore j hj)
  · rcases List.mem_cons.mp hj with rfl | hj
    · exact le_rfl
    · exact (List.rel_of_pairwise_cons hafter hj).le

/-- The streams due on an egress lane, in increasing index. -/
def dueStreams (s : State) (l : Fin 16) : List (Fin 256) := tableWhere (fun r => r.dueOn l) s.streams

variable {s : State} {l : Fin 16} {i j : Fin 256}

theorem mem_dueStreams :
    i ∈ dueStreams s l ↔ (s.stream i).gen.due = true ∧ (s.stream i).config.egressLane = l := by
  rw [dueStreams, mem_tableWhere, Stream.dueOn, Bool.and_eq_true, beq_iff_eq]
  rfl

theorem dueStreams_increasing (s : State) (l : Fin 16) : (dueStreams s l).Pairwise (· < ·) := tableWhere_increasing _ _

/-! ## The choice -/

/-- The first due stream after the last-served one, or else the first of all (R92). -/
theorem arbiterChoice_eq (s : State) (l : Fin 16) :
    arbiterChoice s l =
      ((dueStreams s l).find? fun i => decide ((s.lane l).lastServed < i)).or (dueStreams s l).head? := by
  unfold arbiterChoice dueStreams
  dsimp only
  split
  case h_1 hfound => rw [hfound, Option.some_or]
  case h_2 hnone => rw [hnone, Option.none_or]

theorem arbiterChoice_eq_some :
    arbiterChoice s l = some i ↔
      (dueStreams s l).find? (fun i => decide ((s.lane l).lastServed < i)) = some i
        ∨ (∀ k ∈ dueStreams s l, ¬ (s.lane l).lastServed < k) ∧ (dueStreams s l).head? = some i := by
  rw [arbiterChoice_eq, Option.or_eq_some_iff, List.find?_eq_none]
  simp only [decide_eq_true_eq]

theorem arbiterChoice_eq_none : arbiterChoice s l = none ↔ ∀ i, i ∉ dueStreams s l := by
  rw [arbiterChoice_eq, Option.or_eq_none_iff, List.head?_eq_none_iff, ← List.eq_nil_iff_forall_not_mem]
  exact ⟨And.right, fun hnil => ⟨by rw [hnil, List.find?_nil], hnil⟩⟩

theorem arbiterChoice_mem (h : arbiterChoice s l = some i) : i ∈ dueStreams s l := by
  obtain hfound | ⟨-, hhead⟩ := arbiterChoice_eq_some.mp h
  · exact List.mem_of_find?_eq_some hfound
  · exact List.mem_of_head? hhead

/-- No due stream of the lane comes before the chosen one in the circular order: there is none between the last-served stream
and a choice of greater index, and only when no due stream has a greater index is the choice the first of all (R92). -/
theorem arbiterChoice_first (h : arbiterChoice s l = some i) (hj : j ∈ dueStreams s l) :
    circularPlace (s.lane l).lastServed i ≤ circularPlace (s.lane l).lastServed j := by
  have hincreasing := dueStreams_increasing s l
  have hbound := i.isLt
  rw [circularPlace_eq, circularPlace_eq]
  obtain hfound | ⟨hnone, hhead⟩ := arbiterChoice_eq_some.mp h
  · have hgreater : (s.lane l).lastServed < i := by simpa using List.find?_some hfound
    rw [if_pos hgreater]
    split
    case isTrue hj' =>
      have hle := Fin.le_def.mp (le_of_find?_eq_some hincreasing hfound hj (decide_eq_true hj'))
      omega
    case isFalse => omega
  · rw [if_neg (hnone i (List.mem_of_head? hhead)), if_neg (hnone j hj)]
    obtain ⟨later, hcons⟩ := List.head?_eq_some_iff.mp hhead
    rw [hcons] at hj hincreasing
    have hle : i.val ≤ j.val := by
      rcases List.mem_cons.mp hj with rfl | hj
      · exact le_rfl
      · exact Nat.le_of_lt (List.rel_of_pairwise_cons hincreasing hj)
    omega

/-- Settles O13: the choice is due and comes first, and no two streams have one place in the circular order. -/
theorem arbiterTakesTheNextDueStream : Obligations.ArbiterTakesTheNextDueStream := by
  unfold Obligations.ArbiterTakesTheNextDueStream
  intro s l due place
  have hmem (i : Fin 256) : i ∈ dueStreams s l ↔ due i := mem_dueStreams
  simp only [← hmem]
  refine ⟨fun i => ⟨fun h => ⟨arbiterChoice_mem h, fun j hj => arbiterChoice_first h hj⟩, fun ⟨hdue, hfirst⟩ => ?_⟩,
    arbiterChoice_eq_none⟩
  cases hchoice : arbiterChoice s l with
  | none => exact absurd hdue (arbiterChoice_eq_none.mp hchoice i)
  | some k =>
    have hki : place k = place i :=
      le_antisymm (arbiterChoice_first hchoice hdue) (hfirst k (arbiterChoice_mem hchoice))
    exact congrArg some (circularPlace_injective _ hki)

end Sys2Proof.Machine
end

section
/-! SUPPORT. START_GEN (R86, R87) and STOP_GEN (R88). -/

namespace Sys2Proof.Machine

variable {s : State} {code : Byte} {f : ControlFrame} {rest : List ControlFrame}

/-- A frame of a known code with an argument count the command does not accept is refused (R166 order 4). -/
theorem Executing.exec_wrong_count (h : Executing s code f rest) (hknown : knownCode code = true)
    (hcount : acceptsCount code f.args.length = false) :
    exec (rowOfCode code.toNat) s = .next (s.refuses f rest .badLength) := by
  obtain ⟨hready, hbody, rfl⟩ := h
  rw [← ControlFrame.row_of_goodBody hbody]
  exact exec_of_wrong_count hready hbody hknown hcount

/-! ## What the checks read -/

theorem Generator.active_iff (g : Generator) : g.active = true ↔ ¬ g.state = .idle := bne_iff_ne

theorem Generator.inactive_iff (g : Generator) : (!g.active) = true ↔ ¬ g.state ≠ .idle := by
  rw [Bool.not_eq_true', Bool.eq_false_iff, Ne, Generator.active_iff]

/-- A start is refused where its USER pattern is not READY (R83). -/
theorem Store.patternReady_iff (st : Store) (k : PatternKind) :
    st.patternReady k = true ↔ ¬ ∃ p, k = .user p ∧ (st.pattern p).ready = false := by
  cases k with
  | prbs q => exact ⟨fun _ => nofun, fun _ => rfl⟩
  | fixed w => exact ⟨fun _ => nofun, fun _ => rfl⟩
  | user q =>
    rw [← Bool.not_eq_false]
    exact not_congr ⟨fun hq => ⟨q, rfl, hq⟩, fun ⟨_, hkind, hp⟩ => PatternKind.user.inj hkind ▸ hp⟩

/-! ## What a start leaves -/

/-- On a lane in CLIENT a started generator is HELD, on every other it is RUNNING (R86). -/
theorem startedState_eq (m : EgressMode) : startedState m = if m = .client then .held else .running := by
  cases m <;> rfl

theorem startedState_word (m : EgressMode) : Word.ofNat (startedState m).code = if m = .client then 2 else 1 := by
  cases m <;> rfl

/-- R87's checks in order, and what an accepted START_GEN leaves and answers. -/
theorem finish_startGenAct (w : Word) (s : State) (f : ControlFrame) (rest : List ControlFrame) :
    finish f (startGenAct [w] (s.dequeue rest)) =
      let i := index 256 w
      let r := s.stream i
      let m := (s.lane r.config.egressLane).egress
      if 255 < w.toNat then s.refuses f rest .outOfRange
      else if r.configured = false then s.refuses f rest .notConfigured
      else if r.gen.state ≠ .idle then s.refuses f rest .active
      else if s.window.size.value ≤ i.val then s.refuses f rest .outOfWindow
      else if ∃ p, r.config.kind = .user p ∧ (s.store.pattern p).ready = false then s.refuses f rest .notReady
      else
        (((s.dequeue rest).setGen i (r.gen.started r.config m)).setStore (s.store.use r.config.kind (· + 1))).replied f
          (.good [if m = .client then 2 else 1]) := by
  simp only [startGenAct, finish_checked_cons, finish_checked_nil, finish_mk, State.dequeue_stream, State.dequeue_store,
    State.dequeue_window, inRange_iff]
  refine ite_pass_eq_ite_refuse (by omega) fun _ => ?_
  refine ite_pass_eq_ite_refuse (Bool.not_eq_false _).symm.to_iff fun _ => ?_
  refine ite_pass_eq_ite_refuse (Generator.inactive_iff _) fun _ => ?_
  refine ite_pass_eq_ite_refuse (decide_eq_true_iff.trans Nat.not_le.symm) fun _ => ?_
  refine ite_pass_eq_ite_refuse (Store.patternReady_iff _ _) fun _ => ?_
  rw [← startedState_word]
  rfl

/-- R88's checks in order, and what an accepted STOP_GEN leaves and answers. -/
theorem finish_stopGenAct (w : Word) (s : State) (f : ControlFrame) (rest : List ControlFrame) :
    finish f (stopGenAct [w] (s.dequeue rest)) =
      let i := index 256 w
      let r := s.stream i
      if 255 < w.toNat then s.refuses f rest .outOfRange
      else if r.gen.state = .idle then s.refuses f rest .notActive
      else
        (((s.dequeue rest).setGen i r.gen.stopped).setStore (s.store.use r.config.kind (· - 1))).replied f
          (.good [r.gen.nextSeq.setWidth 32]) := by
  simp only [stopGenAct, finish_checked_cons, finish_checked_nil, finish_mk, State.dequeue_stream, State.dequeue_store,
    inRange_iff]
  refine ite_pass_eq_ite_refuse (by omega) fun _ => ?_
  exact ite_pass_eq_ite_refuse (Generator.active_iff _) fun _ => rfl

/-- Settles O36, by the checks of each command in order; the start's state and word follow the lane's mode. -/
theorem startGenAndStopGen : Obligations.StartGenAndStopGen := by
  unfold Obligations.StartGenAndStopGen
  refine ⟨fun st n => ⟨fun p => st.use_prbs p n, fun w => st.use_fixed w n, fun p => st.use_user_eq p n⟩,
    fun s f rest h => ⟨fun w hargs => ?_, fun hlen => h.exec_wrong_count rfl (beq_false_of_ne hlen)⟩,
    fun s f rest h => ⟨fun w hargs => ?_, fun hlen => h.exec_wrong_count rfl (beq_false_of_ne hlen)⟩⟩
  · have hexec : exec .startGen s = .next (finish f (startGenAct [w] (s.dequeue rest))) :=
      hargs ▸ h.exec_eq (row := .startGen) rfl startGenAct
    rw [hexec, finish_startGenAct]
    simp only [Generator.started, startedState_eq, decide_eq_true_eq]
    rfl
  · have hexec : exec .stopGen s = .next (finish f (stopGenAct [w] (s.dequeue rest))) :=
      hargs ▸ h.exec_eq (row := .stopGen) rfl stopGenAct
    rw [hexec, finish_stopGenAct]
    rfl

end Sys2Proof.Machine
end

section
/-! SUPPORT. SET_INJECT (R98), INJECT_ONE (R99) and INJECT_BURST (R100). -/

namespace Sys2Proof.Machine

/-- R98's checks in order, and the injection fields an accepted SET_INJECT writes. -/
theorem finish_setInjectAct (w n mask : Word) (s : State) (f : ControlFrame) (rest : List ControlFrame) :
    finish f (setInjectAct [w, n, mask] (s.dequeue rest)) =
      let i := index 256 w
      let r := s.stream i
      if 255 < w.toNat then s.refuses f rest .outOfRange
      else if r.configured = false then s.refuses f rest .notConfigured
      else if 65535 < n.toNat ∨ 15 < mask.toNat then s.refuses f rest .outOfRange
      else
        ((s.dequeue rest).setGen i
          { r.gen with
            interval := n.toNat, ditherMask := mask.setWidth 4, injCountdown := n.toNat, ditherPhase := 0 }).replied
          f (.good []) := by
  simp only [setInjectAct, finish_checked_cons, finish_checked_nil, finish_mk, State.dequeue_stream, inRange_iff]
  refine ite_pass_eq_ite_refuse (by omega) fun _ => ?_
  refine ite_pass_eq_ite_refuse (Bool.not_eq_false _).symm.to_iff fun _ => ?_
  rw [← ite_and]
  exact ite_pass_eq_ite_refuse (by omega) fun _ => rfl

/-- R99's checks in order, and the single request an accepted INJECT_ONE makes. -/
theorem finish_injectOneAct (w : Word) (s : State) (f : ControlFrame) (rest : List ControlFrame) :
    finish f (injectOneAct [w] (s.dequeue rest)) =
      let i := index 256 w
      let r := s.stream i
      if 255 < w.toNat then s.refuses f rest .outOfRange
      else if r.gen.state = .idle then s.refuses f rest .notActive
      else if r.gen.single = true then s.refuses f rest .injectPending
      else ((s.dequeue rest).setGen i { r.gen with single := true }).replied f (.good []) := by
  simp only [injectOneAct, finish_checked_cons, finish_checked_nil, finish_mk, State.dequeue_stream, inRange_iff,
    Bool.not_eq_true']
  refine ite_pass_eq_ite_refuse (by omega) fun _ => ?_
  refine ite_pass_eq_ite_refuse (Generator.active_iff _) fun _ => ?_
  exact ite_pass_eq_ite_refuse Bool.eq_false_iff fun _ => rfl

/-- R100's checks in order, and the burst an accepted INJECT_BURST asks for. -/
theorem finish_injectBurstAct (w b : Word) (s : State) (f : ControlFrame) (rest : List ControlFrame) :
    finish f (injectBurstAct [w, b] (s.dequeue rest)) =
      let i := index 256 w
      let r := s.stream i
      if 255 < w.toNat then s.refuses f rest .outOfRange
      else if b.toNat < 1 ∨ 255 < b.toNat then s.refuses f rest .outOfRange
      else if r.gen.state = .idle then s.refuses f rest .notActive
      else if r.gen.burst ≠ 0 then s.refuses f rest .injectPending
      else ((s.dequeue rest).setGen i { r.gen with burst := b.toNat }).replied f (.good []) := by
  simp only [injectBurstAct, finish_checked_cons, finish_checked_nil, finish_mk, State.dequeue_stream, inRange_iff]
  refine ite_pass_eq_ite_refuse (by omega) fun _ => ?_
  refine ite_pass_eq_ite_refuse (by omega) fun _ => ?_
  refine ite_pass_eq_ite_refuse (Generator.active_iff _) fun _ => ?_
  exact ite_pass_eq_ite_refuse (beq_iff_eq.trans not_not.symm) fun _ => rfl

/-- Settles O37, by the checks of each command in order. -/
theorem injectionCommands : Obligations.InjectionCommands := by
  unfold Obligations.InjectionCommands
  refine ⟨fun s f rest h => ⟨fun w n mask hargs => ?_, fun hlen => h.exec_wrong_count rfl (beq_false_of_ne hlen)⟩,
    fun s f rest h => ⟨fun w hargs => ?_, fun hlen => h.exec_wrong_count rfl (beq_false_of_ne hlen)⟩,
    fun s f rest h => ⟨fun w b hargs => ?_, fun hlen => h.exec_wrong_count rfl (beq_false_of_ne hlen)⟩⟩
  · have hexec : exec .setInject s = .next (finish f (setInjectAct [w, n, mask] (s.dequeue rest))) :=
      hargs ▸ h.exec_eq (row := .setInject) rfl setInjectAct
    rw [hexec, finish_setInjectAct]
  · have hexec : exec .injectOne s = .next (finish f (injectOneAct [w] (s.dequeue rest))) :=
      hargs ▸ h.exec_eq (row := .injectOne) rfl injectOneAct
    rw [hexec, finish_injectOneAct]
  · have hexec : exec .injectBurst s = .next (finish f (injectBurstAct [w, b] (s.dequeue rest))) :=
      hargs ▸ h.exec_eq (row := .injectBurst) rfl injectBurstAct
    rw [hexec, finish_injectBurstAct]

end Sys2Proof.Machine
end

section
/-! SUPPORT. The sequence classes (R111), and a delivery at a checker in OFF, HUNT or VERIFY (R109, R113 to R116). -/

namespace Sys2Proof.Machine

variable {cfg : StreamConfig} {st : Store} {o : Bool} {f : Frame} {c : Checker} {d n : Nat}

/-! ## Sequence classes -/

/-- The ahead distance in numbers (R111). -/
theorem ahead_eq (f : Frame) (c : Checker) : ahead f c = (f.sequence.toNat + 65536 - c.expected.toNat) % 65536 := by
  rw [ahead, BitVec.toNat_sub]
  omega

theorem seqClass_of_le (h : d ≤ n) : seqClass n d = .inSequence d := if_pos h

theorem seqClass_of_late (hn : n < 32768) (h : 32768 ≤ d) : seqClass n d = .late :=
  (if_neg (by omega)).trans (if_pos h)

theorem seqClass_of_jump (hlow : n < d) (hhigh : d < 32768) : seqClass n d = .jump :=
  (if_neg (by omega)).trans (if_neg (by omega))

/-- A duplicate of the frame before the expected one is as far ahead as a frame can be (R111). -/
theorem ahead_of_duplicate (h : f.sequence + 1 = c.expected) : ahead f c = 65535 := by
  rw [ahead, ← h, sub_add_cancel_left]
  rfl

/-- Settles O20: the distance in numbers, then the class by the bound it lies under. -/
theorem sequenceClasses : Obligations.SequenceClasses := by
  unfold Obligations.SequenceClasses
  intro f c leapLimit hleap d
  have hahead : ahead f c = d := ahead_eq f c
  rw [hahead]
  refine ⟨rfl, fun hzero => ?_, fun _ hle => seqClass_of_le hle, fun hlate => seqClass_of_late (by omega) hlate,
    fun hlow hhigh => seqClass_of_jump hlow hhigh, fun hdup => ?_⟩
  · rw [hzero]
    exact seqClass_of_le (Nat.zero_le _)
  · have hd : d = 65535 := hahead ▸ ahead_of_duplicate hdup
    exact ⟨hd, seqClass_of_late (by omega) (by omega)⟩

/-! ## Two counter updates in a row -/

/-- Two updates of both counter sets are one update by their sums (R13, R15, R16). -/
theorem Checker.tally_tally (c : Checker) (o : Bool) (t u : Tally) :
    (c.tally o t).tally o u =
      c.tally o
        { bits := t.bits + u.bits, errs := t.errs + u.errs, received := t.received + u.received
          compared := t.compared + u.compared, errored := t.errored + u.errored, bad := t.bad + u.bad
          lost := t.lost + u.lost, late := t.late + u.late, mismatches := t.mismatches + u.mismatches
          resyncs := t.resyncs + u.resyncs } := by
  cases o <;> simp [Checker.tally, Cumulative.add, Interval.add, satAdd_satAdd]

/-! ## The cases of a delivery in HUNT -/

/-- A length mismatch in HUNT is counted where the USER offset alone is wrong (R112, R113). -/
theorem takeHunt_of_mismatch (h : lengthMismatch cfg st f = true) :
    takeHunt cfg st o f c = (if offsetOnlyMismatch cfg st f then c.tally o { mismatches := 1 } else c, []) :=
  if_pos h

/-- A frame that cannot seed changes nothing more (R113). -/
theorem takeHunt_of_unseeded (h : ¬ lengthMismatch cfg st f = true)
    (hseed : seedFrame st cfg.kind cfg.invert f.offset f.words = none) : takeHunt cfg st o f c = (c, []) := by
  rw [takeHunt, if_neg h, hseed]

/-- A seeding frame that is bad leaves the checker in HUNT with its pattern state (R113, R114). -/
theorem takeHunt_of_bad {errs : Nat} {pat : Word} (h : ¬ lengthMismatch cfg st f = true)
    (hseed : seedFrame st cfg.kind cfg.invert f.offset f.words = some (errs, pat)) (hbad : cfg.badThreshold < errs) :
    takeHunt cfg st o f c = ({ c with pat := pat, expected := f.sequence + 1 }, []) := by
  rw [takeHunt, if_neg h, hseed]
  exact if_pos ((badFrame_iff _ _).mpr hbad)

/-- A good seeding frame begins VERIFY and is the first of those that verify (R114). -/
theorem takeHunt_of_good {errs : Nat} {pat : Word} (h : ¬ lengthMismatch cfg st f = true)
    (hseed : seedFrame st cfg.kind cfg.invert f.offset f.words = some (errs, pat)) (hgood : errs ≤ cfg.badThreshold) :
    takeHunt cfg st o f c =
      (Checker.enterVerify { c with pat := pat, expected := f.sequence + 1 }).verified cfg := by
  rw [takeHunt, if_neg h, hseed]
  exact if_neg fun hbad => Nat.not_lt_of_le hgood ((badFrame_iff _ _).mp hbad)

/-! ## The cases of a delivery in VERIFY -/

theorem takeVerify_of_late (h : seqClass cfg.leapLimit (ahead f c) = .late) : takeVerify cfg st o f c = (c, []) := by
  rw [takeVerify, h]

theorem takeVerify_of_jump (h : seqClass cfg.leapLimit (ahead f c) = .jump) :
    takeVerify cfg st o f c = takeJump cfg st o f c := by
  rw [takeVerify, h]

/-- An in-sequence frame with a length mismatch costs a resync, and counts where the USER offset alone is wrong (R112,
R116). -/
theorem takeVerify_of_mismatch (h : seqClass cfg.leapLimit (ahead f c) = .inSequence d)
    (hlength : lengthMismatch cfg st f = true) :
    takeVerify cfg st o f c =
      ((c.tally o { resyncs := 1, mismatches := one (offsetOnlyMismatch cfg st f) }).enterHunt, []) := by
  rw [takeVerify, h]
  exact if_pos hlength

/-- An in-sequence frame is compared with the pattern leapt over the missing frames (R115, R116). -/
theorem takeVerify_of_compared (h : seqClass cfg.leapLimit (ahead f c) = .inSequence d)
    (hlength : ¬ lengthMismatch cfg st f = true) :
    takeVerify cfg st o f c =
      verifyCompare cfg st o f { c with pat := leapWords st cfg.kind (d * cfg.payloadLen) c.pat } := by
  rw [takeVerify, h]
  exact if_neg hlength

/-- Settles O21, state by state: in HUNT by what the frame can seed, in VERIFY class by class. -/
theorem deliveryBeforeLock : Obligations.DeliveryBeforeLock := by
  unfold Obligations.DeliveryBeforeLock
  intro cfg st o f c c1 hunted outside whole missed resync
  have hmismatch : lengthMismatch cfg st f = true ↔ ¬ whole ∨ outside := lengthMismatch_iff cfg st f
  have hoffset : offsetOnlyMismatch cfg st f = true ↔ whole ∧ outside := offsetOnlyMismatch_iff cfg st f
  have hlength : whole → ¬ outside → ¬ lengthMismatch cfg st f = true := fun hwhole hinside hm =>
    (hmismatch.mp hm).elim (fun hnot => hnot hwhole) hinside
  have hpartial : ¬ whole → offsetOnlyMismatch cfg st f = false := fun hnot =>
    Bool.eq_false_iff.mpr fun ho => hnot (hoffset.mp ho).1
  refine ⟨fun hoff => ?_, fun hhunt => ?_, fun hverify => ?_⟩
  · rw [takeDelivery, hoff]
  · have htake : takeDelivery cfg st o f c = takeHunt cfg st o f c1 := by rw [takeDelivery, hhunt]
    rw [htake]
    refine ⟨fun hnot => ?_, fun hwhole hout => ?_, fun hwhole hinside hseed => ?_,
      fun hwhole hinside errs pat hseed => ⟨fun hbad => ?_, fun hgood hcount => ?_, fun hgood hcount => ?_⟩⟩
    · rw [takeHunt_of_mismatch (hmismatch.mpr (.inl hnot)), hpartial hnot]
      rfl
    · rw [takeHunt_of_mismatch (hmismatch.mpr (.inr hout)), hoffset.mpr ⟨hwhole, hout⟩]
      rfl
    · exact takeHunt_of_unseeded (hlength hwhole hinside) hseed
    · exact takeHunt_of_bad (hlength hwhole hinside) hseed hbad
    · exact (takeHunt_of_good (hlength hwhole hinside) hseed hgood).trans (Checker.verified_of_lt hcount)
    · exact (takeHunt_of_good (hlength hwhole hinside) hseed hgood).trans (Checker.verified_of_le hcount.le)
  · have htake : takeDelivery cfg st o f c = takeVerify cfg st o f c1 := by rw [takeDelivery, hverify]
    rw [htake]
    refine ⟨fun hlate => takeVerify_of_late hlate, fun hjump => takeVerify_of_jump hjump, fun d hclass => ?_⟩
    have hseq : seqClass cfg.leapLimit (ahead f c1) = .inSequence d := hclass
    refine ⟨fun hnot => ?_, fun hwhole hout => ?_, fun hwhole hinside => ?_⟩
    · rw [takeVerify_of_mismatch hseq (hmismatch.mpr (.inl hnot)), hpartial hnot]
      rfl
    · rw [takeVerify_of_mismatch hseq (hmismatch.mpr (.inr hout)), hoffset.mpr ⟨hwhole, hout⟩]
      exact congrArg (fun x : Checker => (x.enterHunt, [])) (c1.tally_tally o { mismatches := 1 } { resyncs := 1 }).symm
    · have hcompare := takeVerify_of_compared (o := o) hseq (hlength hwhole hinside)
      exact ⟨fun hbad => hcompare.trans (verifyCompare_of_bad hbad),
        fun hgood hlt => hcompare.trans ((verifyCompare_of_good hgood).trans (Checker.verified_of_lt hlt)),
        fun hgood hle => hcompare.trans ((verifyCompare_of_good hgood).trans (Checker.verified_of_le hle))⟩

end Sys2Proof.Machine
end

section
/-! SUPPORT. The silence timer (R123, R124), and the sites a tick or an edge reaches (R130, R131). -/

namespace Sys2Proof.Machine

variable {s : State} {i : Fin 256}

/-! ## The silence timer -/

/-- The tick that expires finds the timer running, and brings the count to a timeout other than 0 (R124). -/
theorem silenceExpires_iff (r : Stream) :
    silenceExpires r = true ↔
      r.chk.timed = true ∧ r.config.silenceTimeout ≠ 0 ∧ r.chk.nextSilence = r.config.silenceTimeout := by
  rw [silenceExpires, Bool.and_eq_true, Bool.and_eq_true, bne_iff_ne, beq_iff_eq, and_assoc]

theorem tickChecker_of_expires (h : silenceExpires (s.stream i) = true) : tickChecker s i = expireSilence s i := if_pos h

/-- A tick that does not expire advances the silence count (R123). -/
theorem tickChecker_of_timed (hexpires : ¬ silenceExpires (s.stream i) = true) (htimed : (s.stream i).chk.timed = true) :
    tickChecker s i = s.setChk i { (s.stream i).chk with silence := (s.stream i).chk.nextSilence } :=
  (if_neg hexpires).trans (if_pos htimed)

theorem tickChecker_of_untimed (h : ¬ (s.stream i).chk.timed = true) : tickChecker s i = s :=
  (if_neg fun he => h (timed_of_silenceExpires he)).trans (if_neg h)

/-- Silence in VERIFY costs a resync and goes to HUNT (R124). -/
theorem expireSilence_of_verify (h : (s.stream i).chk.sync = .verify) :
    expireSilence s i =
      s.setChk i
        (Checker.tally { (s.stream i).chk with silence := (s.stream i).chk.nextSilence } (s.gateOpenFor (s.stream i))
          { resyncs := 1 }).enterHunt :=
  if_pos h

/-- Silence in LOCKED goes to STALE and raises it (R124). -/
theorem expireSilence_of_locked (h : (s.stream i).chk.sync = .locked) :
    expireSilence s i =
      (s.setChk i
        (Checker.enterStale { (s.stream i).chk with silence := (s.stream i).chk.nextSilence })).raiseStream i .stale :=
  if_neg fun hv => by cases h.symm.trans hv

theorem exec_silenceExpiry_of_expires (hrun : s.inReset = false) (h : silenceExpires (s.stream i) = true) :
    exec (.silenceExpiry i) s = .next (expireSilence s i) :=
  if_pos (Bool.and_eq_true_iff.mpr ⟨by rw [hrun]; rfl, h⟩)

theorem exec_silenceExpiry_of_not (h : ¬ silenceExpires (s.stream i) = true) : exec (.silenceExpiry i) s = .next s :=
  if_neg fun he => h (Bool.and_eq_true_iff.mp he).2

/-- Settles O24, by whether the timer runs and whether its tick expires. -/
theorem silenceTimer : Obligations.SilenceTimer := by
  unfold Obligations.SilenceTimer
  intro s i r n runs
  have htimed : r.chk.timed = true ↔ runs := r.chk.timed_iff
  have hexpires : silenceExpires r = true ↔
      r.chk.timed = true ∧ r.config.silenceTimeout ≠ 0 ∧ n = r.config.silenceTimeout := silenceExpires_iff r
  have hexpired : runs → r.config.silenceTimeout ≠ 0 → n = r.config.silenceTimeout → silenceExpires r = true :=
    fun hruns hzero hn => hexpires.mpr ⟨htimed.mpr hruns, hzero, hn⟩
  refine ⟨fun hstill => ?_, fun hruns hwait => ?_, fun hverify hzero hn hrun => ?_, fun hlocked hzero hn hrun => ?_⟩
  · have huntimed : ¬ r.chk.timed = true := fun ht => hstill (htimed.mp ht)
    exact ⟨tickChecker_of_untimed huntimed, exec_silenceExpiry_of_not fun he => huntimed (hexpires.mp he).1⟩
  · have hnot : ¬ silenceExpires r = true := fun he => by
      obtain ⟨-, hzero, hn⟩ := hexpires.mp he
      exact hwait.elim hzero fun hne => hne hn
    exact ⟨tickChecker_of_timed hnot (htimed.mpr hruns), exec_silenceExpiry_of_not hnot⟩
  · have he := hexpired (.inl hverify) hzero hn
    have htick : tickChecker s i = expireSilence s i := tickChecker_of_expires he
    rw [htick, ← State.gateOpenFor_eq]
    exact ⟨exec_silenceExpiry_of_expires hrun he, expireSilence_of_verify hverify⟩
  · have he := hexpired (.inr hlocked) hzero hn
    have htick : tickChecker s i = expireSilence s i := tickChecker_of_expires he
    rw [htick]
    exact ⟨exec_silenceExpiry_of_expires hrun he, expireSilence_of_locked hlocked⟩

/-! ## Orders of sites -/

section

variable {α : Type} [DecidableEq α]

theorem nodup_eraseDups (l : List α) : l.eraseDups.Nodup := by
  match l with
  | [] => exact List.nodup_nil
  | a :: t =>
    rw [List.eraseDups_cons, List.nodup_cons, List.mem_eraseDups]
    exact ⟨by simp, nodup_eraseDups _⟩
termination_by l.length
decreasing_by exact Nat.lt_succ_of_le (List.length_filter_le _ t)

theorem eraseDups_of_nodup {l : List α} (h : l.Nodup) : l.eraseDups = l := by
  induction l with
  | nil => rfl
  | cons a t ih =>
    obtain ⟨ha, ht⟩ := List.nodup_cons.mp h
    have hkept : t.filter (fun b => !b == a) = t :=
      List.filter_eq_self.mpr fun b hb => by simpa using fun hba : b = a => ha (hba ▸ hb)
    rw [List.eraseDups_cons, hkept, ih ht]

/-- An order made whole names no site twice. -/
theorem nodup_completeOrder (first : List α) {all : List α} (h : all.Nodup) : (completeOrder first all).Nodup := by
  refine List.nodup_append'.mpr ⟨(nodup_eraseDups first).filter _, h.filter _, fun x hfirst hothers => ?_⟩
  have hx : x ∈ first := List.mem_eraseDups.mp (List.mem_filter.mp hfirst).1
  exact of_decide_eq_true (List.mem_filter.mp hothers).2 hx

/-- The sites an event names come first, in the event's order (log 8). -/
theorem named_sites_lead_completeOrder {first : List α} (h : first.Nodup) (all : List α) :
    first.filter (fun x => decide (x ∈ all)) <+: completeOrder first all := by
  rw [completeOrder, eraseDups_of_nodup h]
  exact ⟨_, rfl⟩

theorem completeOrder_perm (first : List α) {all : List α} (h : all.Nodup) : (completeOrder first all).Perm all :=
  (List.perm_ext_iff_of_nodup (nodup_completeOrder first h) h).mpr (mem_completeOrder first all)

end

/-! ## The sites of a tick and of an edge -/

theorem gate_mem_allSites (s : State) (g : Fin 4) : .gate g ∈ allSites s := by
  simp [allSites]

theorem checker_mem_allSites :
    .checker i ∈ allSites s ↔ (s.stream i).chk.sync = .verify ∨ (s.stream i).chk.sync = .locked := by
  rw [← Checker.timed_iff]
  simp [allSites, State.stream]

theorem nodup_allSites (s : State) : (allSites s).Nodup := by
  refine List.nodup_append'.mpr ⟨(tableWhere_nodup _ _).map fun _ _ => TickSite.checker.inj,
    (List.nodup_finRange 4).map fun _ _ => TickSite.gate.inj, fun x hchecker hgate => ?_⟩
  obtain ⟨_, -, rfl⟩ := List.mem_map.mp hchecker
  obtain ⟨_, -, hx⟩ := List.mem_map.mp hgate
  cases hx

/-- An order of gates comes first in the order made whole, which holds every gate. -/
theorem order_leads_completeOrder_indexes {n : Nat} {order : List (Fin n)} (h : order.Nodup) :
    order <+: completeOrder order (indexes n) := by
  have hall : order.filter (fun x => decide (x ∈ indexes n)) = order :=
    List.filter_eq_self.mpr fun x _ => decide_eq_true (mem_indexes x)
  simpa only [hall] using named_sites_lead_completeOrder h (indexes n)

/-- Settles O25: the sites are the order made whole, and the effect at one site is its definition. -/
theorem ticksReachEverySiteOnce : Obligations.TicksReachEverySiteOnce := by
  unfold Obligations.TicksReachEverySiteOnce
  intro s hrun
  have hheld : ¬ s.inReset = true := Bool.eq_false_iff.mp hrun
  refine ⟨fun order => ⟨completeOrder order (allSites s), nodup_completeOrder order (nodup_allSites s),
      fun g => (mem_completeOrder ..).mpr (gate_mem_allSites s g),
      fun i => (mem_completeOrder ..).trans checker_mem_allSites, fun horder => ?_, if_neg hheld⟩,
    fun order => ⟨completeOrder order (indexes 4), completeOrder_perm order (List.nodup_finRange 4),
      order_leads_completeOrder_indexes, if_neg hheld, if_neg hheld, if_neg hheld, if_neg hheld⟩,
    fun _ _ => rfl, fun _ _ => rfl, fun _ _ _ => rfl, fun _ _ => rfl⟩
  simpa only [mem_completeOrder] using named_sites_lead_completeOrder horder (allSites s)

end Sys2Proof.Machine
end

section
/-! SUPPORT. START_CHK (R106), STOP_CHK (R107) and RESTART_CHK (R108). -/

namespace Sys2Proof.Machine

variable {s : State} {i : Fin 256}

theorem Checker.inactive_iff (c : Checker) : (!c.active) = true ↔ ¬ c.sync ≠ .off := by
  rw [Bool.not_eq_true', Bool.eq_false_iff, Ne, Checker.active_iff]

theorem Checker.holdsLock_iff (c : Checker) : c.holdsLock = true ↔ c.sync = .locked ∨ c.sync = .stale := by
  rw [Checker.holdsLock, Bool.or_eq_true, beq_iff_eq, beq_iff_eq]

/-- R106's checks in order, and what an accepted START_CHK leaves and answers. -/
theorem finish_startChkAct (w : Word) (s : State) (f : ControlFrame) (rest : List ControlFrame) :
    finish f (startChkAct [w] (s.dequeue rest)) =
      let i := index 256 w
      let r := s.stream i
      let late := s.gateOpenFor r
      if 255 < w.toNat then s.refuses f rest .outOfRange
      else if r.configured = false then s.refuses f rest .notConfigured
      else if r.chk.sync ≠ .off then s.refuses f rest .active
      else if s.window.size.value ≤ i.val then s.refuses f rest .outOfWindow
      else if ∃ p, r.config.kind = .user p ∧ (s.store.pattern p).ready = false then s.refuses f rest .notReady
      else
        (((s.dequeue rest).setChk i (r.chk.started late)).setStore (s.store.use r.config.kind (· + 1))).replied f
          (.good [if late then 1 else 0]) := by
  simp only [startChkAct, finish_checked_cons, finish_checked_nil, finish_mk, State.dequeue_stream, State.dequeue_store,
    State.dequeue_window, inRange_iff, Word.ofNat_one]
  refine ite_pass_eq_ite_refuse (by omega) fun _ => ?_
  refine ite_pass_eq_ite_refuse (Bool.not_eq_false _).symm.to_iff fun _ => ?_
  refine ite_pass_eq_ite_refuse (Checker.inactive_iff _) fun _ => ?_
  refine ite_pass_eq_ite_refuse (decide_eq_true_iff.trans Nat.not_le.symm) fun _ => ?_
  exact ite_pass_eq_ite_refuse (Store.patternReady_iff _ _) fun _ => rfl

/-- Settles O38, by R106's checks in order. -/
theorem startChk : Obligations.StartChk := by
  unfold Obligations.StartChk
  refine fun s f rest h => ⟨fun w hargs => ?_, fun hlen => h.exec_wrong_count rfl (beq_false_of_ne hlen)⟩
  have hexec : exec .startChk s = .next (finish f (startChkAct [w] (s.dequeue rest))) :=
    hargs ▸ h.exec_eq (row := .startChk) rfl startChkAct
  rw [hexec, finish_startChkAct]
  simp only [State.gateOpenFor_eq]
  rfl

/-- R107's checks in order, and what an accepted STOP_CHK leaves and answers. -/
theorem finish_stopChkAct (w : Word) (s : State) (f : ControlFrame) (rest : List ControlFrame) :
    finish f (stopChkAct [w] (s.dequeue rest)) =
      let i := index 256 w
      let r := s.stream i
      if 255 < w.toNat then s.refuses f rest .outOfRange
      else if r.chk.sync = .off then s.refuses f rest .notActive
      else
        (((s.dequeue rest).setChk i r.chk.stopped).setStore (s.store.use r.config.kind (· - 1))).replied f
          (.good [Word.ofNat r.chk.sync.code]) := by
  simp only [stopChkAct, finish_checked_cons, finish_checked_nil, finish_mk, State.dequeue_stream, State.dequeue_store,
    inRange_iff]
  refine ite_pass_eq_ite_refuse (by omega) fun _ => ?_
  exact ite_pass_eq_ite_refuse (Checker.active_iff _) fun _ => rfl

/-- A restart hunts anew; where lock was held it costs a resync and raises LOCK_LOST (R108). -/
theorem restartChecker_eq (s : State) (i : Fin 256) :
    restartChecker s i =
      let r := s.stream i
      if r.chk.sync = .locked ∨ r.chk.sync = .stale then
        (s.setChk i (r.chk.tally (s.gateOpenFor r) { resyncs := 1 }).enterHunt).raiseStream i .lockLost
      else s.setChk i r.chk.enterHunt :=
  if_congr (Checker.holdsLock_iff _) rfl rfl

/-- R108's checks in order, and what an accepted RESTART_CHK leaves and answers. -/
theorem finish_restartChkAct (w : Word) (s : State) (f : ControlFrame) (rest : List ControlFrame) :
    finish f (restartChkAct [w] (s.dequeue rest)) =
      let i := index 256 w
      let r := s.stream i
      if 255 < w.toNat then s.refuses f rest .outOfRange
      else if r.chk.sync = .off then s.refuses f rest .notActive
      else if r.chk.sync = .locked ∨ r.chk.sync = .stale then
        (((s.dequeue rest).setChk i (r.chk.tally (s.gateOpenFor r) { resyncs := 1 }).enterHunt).raiseStream i
          .lockLost).replied f (.good [Word.ofNat r.chk.sync.code])
      else ((s.dequeue rest).setChk i r.chk.enterHunt).replied f (.good [Word.ofNat r.chk.sync.code]) := by
  simp only [restartChkAct, finish_checked_cons, finish_checked_nil, finish_mk, State.dequeue_stream, inRange_iff]
  refine ite_pass_eq_ite_refuse (by omega) fun _ => ?_
  refine ite_pass_eq_ite_refuse (Checker.active_iff _) fun _ => ?_
  rw [restartChecker_eq]
  exact apply_ite (State.replied · f _) _ _ _

/-- Settles O39, by the checks of each command in order; a restart by whether lock was held. -/
theorem stopAndRestartChk : Obligations.StopAndRestartChk := by
  unfold Obligations.StopAndRestartChk
  refine ⟨fun s f rest h => ⟨fun w hargs => ?_, fun hlen => h.exec_wrong_count rfl (beq_false_of_ne hlen)⟩,
    fun s f rest h => ⟨fun w hargs => ?_, fun hlen => h.exec_wrong_count rfl (beq_false_of_ne hlen)⟩⟩
  · have hexec : exec .stopChk s = .next (finish f (stopChkAct [w] (s.dequeue rest))) :=
      hargs ▸ h.exec_eq (row := .stopChk) rfl stopChkAct
    rw [hexec, finish_stopChkAct]
    rfl
  · have hexec : exec .restartChk s = .next (finish f (restartChkAct [w] (s.dequeue rest))) :=
      hargs ▸ h.exec_eq (row := .restartChk) rfl restartChkAct
    rw [hexec, finish_restartChkAct]
    simp only [State.gateOpenFor_eq]
    rfl

end Sys2Proof.Machine
end

section
/-! SUPPORT. What a step can do to a gate: a chain of the changes listed here (R132 to R142). What leaves the gates alone
comes first. -/

namespace Sys2Proof.Machine

variable (s : State)

/-- What every operation of a fold leaves alone, the fold leaves alone. -/
theorem foldl_keeps {α β : Type} (part : State → β) {f : State → α → State} (h : ∀ s a, part (f s a) = part s)
    (l : List α) : part (l.foldl f s) = part s := by
  induction l generalizing s with
  | nil => rfl
  | cons a l ih => exact (ih (f s a)).trans (h s a)

/-! ## Checkers and generators -/

@[simp] theorem deliver_gates (i : Fin 256) (f : Frame) : (deliver s i f).gates = s.gates :=
  State.raiseAll_gates _ _ _

@[simp] theorem expireSilence_gates (i : Fin 256) : (expireSilence s i).gates = s.gates := by
  unfold expireSilence
  simp only []
  split
  · rfl
  · exact State.raiseStream_gates _ _ _

@[simp] theorem tickChecker_gates (i : Fin 256) : (tickChecker s i).gates = s.gates := by
  unfold tickChecker
  simp only []
  split_ifs
  · exact expireSilence_gates s i
  · rfl
  · rfl

@[simp] theorem restartChecker_gates (i : Fin 256) : (restartChecker s i).gates = s.gates := by
  unfold restartChecker
  simp only []
  split
  · exact State.raiseStream_gates _ _ _
  · rfl

@[simp] theorem classifyMember_gates (i : Fin 256) : (classifyMember s i).gates = s.gates := by
  unfold classifyMember
  simp only []
  split
  · exact State.raiseStream_gates _ _ _
  · rfl

@[simp] theorem classifyMembers_gates (g : Fin 4) : (classifyMembers s g).gates = s.gates :=
  foldl_keeps s State.gates classifyMember_gates _

@[simp] theorem paceStream_gates (i : Fin 256) : (paceStream s i).gates = s.gates := by
  unfold paceStream pacingReload
  simp only []
  split_ifs
  · exact State.raiseStream_gates _ _ _
  · rfl
  · rfl

@[simp] theorem paceLane_gates (l : Fin 16) : (paceLane s l).gates = s.gates := foldl_keeps s State.gates paceStream_gates _

/-! ## Lanes and the agent -/

@[simp] theorem takeControl_gates (broadcast : Bool) (f : Frame) : (takeControl s broadcast f).gates = s.gates := by
  unfold takeControl
  split
  · rfl
  · exact State.raiseDevice_gates _ _ _ _

@[simp] theorem takeClient_gates (l : Fin 16) (f : Frame) : (takeClient s l f).gates = s.gates := by
  unfold takeClient
  simp only []
  split_ifs
  · rfl
  · rfl
  · exact State.raiseDevice_gates _ _ _ _

@[simp] theorem countVerdict_gates (l : Fin 16) (v : Verdict) : (countVerdict s l v).gates = s.gates := by
  unfold countVerdict
  split
  · rfl
  · rfl
  · rfl
  · split <;> rfl
  · split_ifs <;> rfl

@[simp] theorem sendClient_gates (l : Fin 16) : (sendClient s l).gates = s.gates := by
  unfold sendClient
  simp only []
  split
  · split <;> rfl
  · rfl

@[simp] theorem serveLineOut_gates (l : Fin 16) : (serveLineOut s l).gates = s.gates := by
  unfold serveLineOut
  split
  · rfl
  · exact sendClient_gates s l

@[simp] theorem enterWaiting_gates : (enterWaiting s).gates = s.gates := by
  obtain ⟨r, -, -, h⟩ | ⟨-, h⟩ := enterWaiting_cases s <;> rw [h]

@[simp] theorem sendForwarded_gates (l : Fin 16) : (sendForwarded s l).gates = s.gates := by
  unfold sendForwarded
  simp only []
  split <;> rfl

@[simp] theorem sendOutbound_gates (o : OutFrame) (rest : List OutFrame) : (sendOutbound s o rest).gates = s.gates :=
  enterWaiting_gates _

@[simp] theorem completeClear_gates (g : Fin 64) : (completeClear s g).gates = s.gates :=
  State.raiseDevice_gates _ _ _ _

@[simp] theorem setPolicy_gates (k : Kind) (p : Policy) : (setPolicy s k p).gates = s.gates := by
  unfold setPolicy
  simp only []
  split
  · cases k <;> rfl
  · rfl

/-! ## The commands of the other blocks -/

/-- A command's checks in front of an action that leaves the gates alone. -/
theorem checked_gates {cs : List (Bool × Status)} {s : State} {k : Answer × State} (h : k.2.gates = s.gates) :
    (checked cs s k).2.gates = s.gates :=
  checked_keeps (P := fun t => t.gates = s.gates) rfl fun _ => h

/-- The rows whose effect changes a gate: the reset of the engine and the commands of a gate (R135, R136, R142, R171). -/
def changesGates : Instr → Bool
  | .resetEngine | .setGate | .startGate | .stopGate => true
  | _ => false

/-- Every command but those leaves the gates alone. -/
theorem commandAction_gates {c : Instr} {act : List Word → State → Answer × State} (h : commandAction c = some act)
    (hc : changesGates c = false) (ws : List Word) (s : State) : (act ws s).2.gates = s.gates := by
  cases c <;> cases h
  case resetEngine | setGate | startGate | stopGate => cases hc
  case echo => rfl
  case identify | readRing | readEvents =>
    match ws with
    | [] => rfl
    | _ :: _ => rfl
  case wipeStore =>
    match ws with
    | [] => exact checked_gates rfl
    | _ :: _ => rfl
  case restartChk =>
    match ws with
    | [] => rfl
    | [_] => exact checked_gates (restartChecker_gates s _)
    | _ :: _ :: _ => rfl
  case setWindow =>
    unfold setWindowAct
    split
    · split
      · rfl
      · exact checked_gates (checked_gates rfl)
    · rfl
  case readLane =>
    unfold readLaneAct
    split
    · refine checked_gates ?_
      split <;> rfl
    · rfl
  case ackEvents =>
    unfold ackEventsAct
    split
    · split
      · exact checked_gates rfl
      · exact checked_gates rfl
    · rfl
  case setEventPolicy =>
    unfold setEventPolicyAct
    split
    · split
      · rfl
      · exact checked_gates (setPolicy_gates s _ _)
    · rfl
  case loadWords =>
    unfold loadWordsAct
    split
    · split
      · exact checked_gates rfl
      · rfl
    · rfl
  case setStream =>
    unfold setStreamAct
    split
    · exact checked_gates rfl
    · rfl
  case injectBurst =>
    match ws with
    | [] | [_] | _ :: _ :: _ :: _ => rfl
    | [_, _] => exact checked_gates rfl
  case setInject | setLane | readSegment | definePattern =>
    match ws with
    | [] | [_] | [_, _] | _ :: _ :: _ :: _ :: _ => rfl
    | [_, _, _] => exact checked_gates rfl
  all_goals
    match ws with
    | [] | _ :: _ :: _ => rfl
    | [_] => exact checked_gates rfl

end Sys2Proof.Machine
end

section
/-! SUPPORT. What an interval end, a count event and a command do to each gate (R132 to R142), and what a step can do to a
gate: a chain of the changes listed here. -/

namespace Sys2Proof.Machine

/-! ## Each gate after the operations of the Gate Unit -/

/-- The gate after an interval end: in its next interval, and IDLE when it is SINGLE or stopped (R139, R140, R142). -/
def Gate.ended (x : Gate) (stop : Bool) : Gate :=
  { x.nextInterval with state := if stop = true ∨ x.mode = .single then .idle else x.state }

section
variable (s : State) (g h : Fin 4)

theorem openGate_gate :
    (openGate s g).gate h = if g = h then { s.gate g with state := .opened } else s.gate h :=
  State.gate_setGate s g h _

/-- The part at an OPEN gate's count event: the count raised, each member's tick classified (R138). -/
def countedMembers : State := classifyMembers (s.setGate g { s.gate g with count := (s.gate g).count + 1 }) g

theorem countedMembers_gate :
    (countedMembers s g).gate h = if g = h then { s.gate g with count := (s.gate g).count + 1 } else s.gate h := by
  rw [countedMembers, State.gate_congr (classifyMembers_gates _ g), State.gate_setGate]

theorem closeGate_gate (stop : Bool) :
    (closeGate g stop s).gate h =
      if g = h then
        { s.gate g with state := if stop = true ∨ (s.gate g).mode = .single then .idle else (s.gate g).state }
      else s.gate h :=
  (State.gate_congr (closeGate_gates s g stop) h).trans (State.gate_setGate s g h _)

theorem endAlone_gate (base : Nat) :
    (endAlone g base s).gate h = if g = h then (s.gate g).ended false else s.gate h := by
  rw [endAlone, closeGate_gate, endInterval_gate, endInterval_gate, if_pos rfl]
  split <;> rfl

variable {s g h}

/-! ## Count events by the gate's state -/

theorem countEventWith_of_idle {atEnd : State → State} (hg : (s.gate g).state = .idle) :
    countEventWith atEnd g s = s := by
  simp only [countEventWith, hg]

theorem countEventWith_of_armed {atEnd : State → State} (hg : (s.gate g).state = .armed) :
    countEventWith atEnd g s = if (s.gate g).qualifier = .nextCount then openGate s g else s := by
  simp only [countEventWith, hg]

theorem countEventWith_of_opened {atEnd : State → State} (hg : (s.gate g).state = .opened) :
    countEventWith atEnd g s =
      if (s.gate g).count + 1 = (s.gate g).length then atEnd (countedMembers s g) else countedMembers s g := by
  simp only [countEventWith, hg, countedMembers]

/-- A count event leaves alone a gate that the end it makes leaves alone. -/
theorem countEventWith_gate_of_ne {atEnd : State → State} (hend : ∀ u, (atEnd u).gate h = u.gate h) (hne : g ≠ h) :
    (countEventWith atEnd g s).gate h = s.gate h := by
  cases hg : (s.gate g).state with
  | idle => rw [countEventWith_of_idle hg]
  | armed =>
    rw [countEventWith_of_armed hg]
    split
    · rw [openGate_gate, if_neg hne]
    · rfl
  | opened =>
    rw [countEventWith_of_opened hg]
    split
    · rw [hend, countedMembers_gate, if_neg hne]
    · rw [countedMembers_gate, if_neg hne]

/-- A gate is not its own partner (R132). -/
theorem ne_of_partner (hp : partner s g = some h) : h ≠ g := by
  rintro rfl
  unfold partner at hp
  split_ifs at hp with hzero htwo
  · rw [hzero.1] at hp
    exact absurd hp (by decide)
  · rw [htwo.1] at hp
    exact absurd hp (by decide)

/-- The partner's count event leaves the gate that ended alone (R141). -/
theorem feedPartner_gate_self (base : Nat) : (feedPartner g base s).gate g = s.gate g := by
  unfold feedPartner
  split
  case h_1 k hp =>
    have hne := ne_of_partner hp
    exact countEventWith_gate_of_ne (fun u => by rw [endAlone_gate, if_neg hne]) hne
  case h_2 => rfl

/-- The gate whose interval ends (R139, R142). -/
theorem intervalEnd_gate_self (stop : Bool) (base : Nat) :
    (intervalEnd g stop base s).gate g = (s.gate g).ended stop := by
  rw [intervalEnd, closeGate_gate, feedPartner_gate_self, endInterval_gate, if_pos rfl, if_pos rfl]
  rfl

end

/-! ## The changes -/

/-- Gate `g` before and after one event. -/
inductive GateChange (g : Fin 4) (x : Gate) : Gate → Prop
  /-- SET_GATE with its values in range (R135). -/
  | configured (src : GateSource) (len : Nat) (m : GateMode) (q : Qualifier) (marks : Bool) (hlow : 1 ≤ len)
      (hhigh : len ≤ 65535) (hchain : src = .chain → g = 1 ∨ g = 3) : GateChange g x (x.configured src len m q marks)
  /-- START_GATE (R136). -/
  | armed (h : x.state = .idle) : GateChange g x { x with state := .armed, number := 0, count := 0 }
  /-- An opening (R137). -/
  | opened (h : x.state = .armed) : GateChange g x { x with state := .opened }
  /-- A count event short of the length (R138). -/
  | counted (h : x.state = .opened) (hshort : x.count + 1 ≠ x.length) : GateChange g x { x with count := x.count + 1 }
  /-- An interval end, full or partial (R139, R140, R142). -/
  | ended (h : x.state = .opened) (stop : Bool) : GateChange g x (x.ended stop)
  /-- STOP_GATE at an ARMED gate (R142). -/
  | disarmed (h : x.state = .armed) : GateChange g x { x with state := .idle, pendingLength := none }
  /-- A reset (R146). -/
  | reset : GateChange g x Gate.reset

/-- Each gate of `t` comes from the same gate of `s` by changes one after another. -/
def GateChanges (s t : State) : Prop := ∀ g, Relation.ReflTransGen (GateChange g) (s.gate g) (t.gate g)

theorem GateChanges.refl (s : State) : GateChanges s s := fun _ => .refl

theorem GateChanges.trans {s t u : State} (h : GateChanges s t) (h' : GateChanges t u) : GateChanges s u :=
  fun g => (h g).trans (h' g)

theorem GateChanges.of_gates {s t : State} (h : t.gates = s.gates) : GateChanges s t := fun g => by
  rw [State.gate_congr h]

/-- One gate changes, and the others stay. -/
theorem GateChanges.of_gate {s t : State} {g : Fin 4} {y : Gate} (hy : GateChange g (s.gate g) y)
    (ht : ∀ h, t.gate h = if g = h then y else s.gate h) : GateChanges s t := fun h => by
  rw [ht]
  split
  case isTrue heq => exact heq ▸ .single hy
  case isFalse => exact .refl

theorem GateChanges.setGate {s : State} {g : Fin 4} {y : Gate} (hy : GateChange g (s.gate g) y) :
    GateChanges s (s.setGate g y) :=
  .of_gate hy fun h => State.gate_setGate s g h y

theorem foldl_gateChanges {α : Type} {f : State → α → State} (h : ∀ s a, GateChanges s (f s a)) (l : List α) (s : State) :
    GateChanges s (l.foldl f s) := by
  induction l generalizing s with
  | nil => exact .refl s
  | cons a l ih => exact (h s a).trans (ih (f s a))

/-! ## Count events, ticks and edges -/

section
variable (s : State) (g : Fin 4)

theorem openGate_gateChanges (h : (s.gate g).state = .armed) : GateChanges s (openGate s g) :=
  .of_gate (.opened h) (openGate_gate s g)

/-- A count event changes its gate by one change, and the others as the end it makes does: an end forgets the count. -/
theorem countEventWith_gateChanges {atEnd : State → State} (hself : ∀ u, (atEnd u).gate g = (u.gate g).ended false)
    (hother : ∀ u h, g ≠ h → Relation.ReflTransGen (GateChange h) (u.gate h) ((atEnd u).gate h)) :
    GateChanges s (countEventWith atEnd g s) := by
  cases hg : (s.gate g).state with
  | idle =>
    rw [countEventWith_of_idle hg]
    exact .refl s
  | armed =>
    rw [countEventWith_of_armed hg]
    split
    · exact openGate_gateChanges s g hg
    · exact .refl s
  | opened =>
    rw [countEventWith_of_opened hg]
    split
    case isTrue =>
      intro h
      by_cases hgh : g = h
      · subst hgh
        rw [hself, countedMembers_gate, if_pos rfl]
        exact .single (.ended hg false)
      · have hsame : (countedMembers s g).gate h = s.gate h := by rw [countedMembers_gate, if_neg hgh]
        exact hsame ▸ hother (countedMembers s g) h hgh
    case isFalse hshort => exact .of_gate (.counted hg hshort) (countedMembers_gate s g)

theorem feedPartner_gateChanges (base : Nat) : GateChanges s (feedPartner g base s) := by
  unfold feedPartner
  split
  case h_1 k _ =>
    refine countEventWith_gateChanges s k (fun u => ?_) fun u h hne => ?_
    · rw [endAlone_gate, if_pos rfl]
    · rw [endAlone_gate, if_neg hne]
  case h_2 => exact .refl s

/-- The gates beside the one whose interval ends change as the partner's count event says (R141). -/
theorem intervalEnd_gateChange_of_ne {h : Fin 4} (stop : Bool) (base : Nat) (hne : g ≠ h) :
    Relation.ReflTransGen (GateChange h) (s.gate h) ((intervalEnd g stop base s).gate h) := by
  have hfeed := feedPartner_gateChanges (endInterval g stop base s) g base h
  rw [endInterval_gate, if_neg hne] at hfeed
  rwa [intervalEnd, closeGate_gate, if_neg hne]

theorem intervalEnd_gateChanges (stop : Bool) (base : Nat) (hg : (s.gate g).state = .opened) :
    GateChanges s (intervalEnd g stop base s) := by
  intro h
  by_cases hgh : g = h
  · subst hgh
    rw [intervalEnd_gate_self]
    exact .single (.ended hg stop)
  · exact intervalEnd_gateChange_of_ne s g stop base hgh

theorem countEvent_gateChanges (base : Nat) : GateChanges s (countEvent base g s) :=
  countEventWith_gateChanges s g (fun _ => intervalEnd_gate_self false base)
    fun u _ hne => intervalEnd_gateChange_of_ne u g false base hne

theorem tickGate_gateChanges (source : GateSource) (base : Nat) : GateChanges s (tickGate source base s g) := by
  unfold tickGate
  split
  · exact countEvent_gateChanges s g base
  · exact .refl s

theorem tickGates_gateChanges (source : GateSource) (order : List (Fin 4)) : GateChanges s (tickGates source order s) :=
  foldl_gateChanges (fun s g => tickGate_gateChanges s g _ _) _ s

theorem tickSite_gateChanges (base : Nat) (x : TickSite) : GateChanges s (tickSite base s x) := by
  cases x with
  | checker i => exact .of_gates (tickChecker_gates s i)
  | gate g => exact tickGate_gateChanges s g _ _

theorem edgeGate_gateChanges (base : Nat) : GateChanges s (edgeGate base s g) := by
  unfold edgeGate
  simp only []
  split_ifs with hopens
  · exact openGate_gateChanges s g hopens.1
  · exact countEvent_gateChanges s g base
  · exact .refl s

/-! ## The commands -/

theorem stopGate_gateChanges : GateChanges s (stopGate s g) := by
  unfold stopGate
  split
  case h_1 => exact .refl s
  case h_2 hg => exact .setGate (.disarmed hg)
  case h_3 hg => exact intervalEnd_gateChanges s g true _ hg

end

/-- A command's checks in front of changes of the gates: refused, it changes nothing. -/
theorem checked_gateChanges {cs : List (Bool × Status)} {s : State} {k : Answer × State}
    (h : (∀ c ∈ cs, c.1 = true) → GateChanges s k.2) : GateChanges s (checked cs s k).2 :=
  checked_keeps (.refl s) h

section
variable (ws : List Word) (s : State)

theorem resetEngineAct_gateChanges : GateChanges s (resetEngineAct ws s).2 := by
  unfold resetEngineAct
  split
  · intro g
    rw [show (engineReset s).gate g = Gate.reset from tableMap_get _ _ g]
    exact .single .reset
  · exact .refl s

theorem setGateAct_gateChanges : GateChanges s (setGateAct ws s).2 := by
  unfold setGateAct
  split
  · refine checked_gateChanges fun h => ?_
    simp only [List.mem_cons, List.not_mem_nil, or_false, forall_eq_or_imp, forall_eq, inRange_iff, Bool.or_eq_true,
      bne_iff_ne, beq_iff_eq, or_assoc] at h
    obtain ⟨-, -, ⟨hlow, hhigh⟩, -, -, -, hchain, -⟩ := h
    exact .setGate (.configured _ _ _ _ _ hlow hhigh fun hsrc => hchain.resolve_left fun hne => hne hsrc)
  · exact .refl s

theorem startGateAct_gateChanges : GateChanges s (startGateAct ws s).2 := by
  unfold startGateAct
  split
  · refine checked_gateChanges fun h => ?_
    simp only [List.mem_cons, List.not_mem_nil, or_false, forall_eq_or_imp, forall_eq, beq_iff_eq] at h
    exact .setGate (.armed h.2)
  · exact .refl s

theorem stopGateAct_gateChanges : GateChanges s (stopGateAct ws s).2 := by
  unfold stopGateAct
  split
  · exact checked_gateChanges fun _ => stopGate_gateChanges s _
  · exact .refl s

end

/-- What any command does to the gates. -/
theorem commandAction_gateChanges {c : Instr} {act : List Word → State → Answer × State}
    (h : commandAction c = some act) (ws : List Word) (s : State) : GateChanges s (act ws s).2 := by
  cases hc : changesGates c with
  | false => exact .of_gates (commandAction_gates h hc ws s)
  | true =>
    cases c with
    | resetEngine => cases h; exact resetEngineAct_gateChanges ws s
    | setGate => cases h; exact setGateAct_gateChanges ws s
    | startGate => cases h; exact startGateAct_gateChanges ws s
    | stopGate => cases h; exact stopGateAct_gateChanges ws s
    | _ => cases hc

/-! ## Every event -/

section
variable {s t : State}

theorem runCommand_gateChanges {row : Instr} {act : List Word → State → Answer × State}
    (hact : ∀ ws s, GateChanges s (act ws s).2) (h : runCommand row act s = .next t) : GateChanges s t := by
  obtain hnone | ⟨f, rest, -, -, hrun⟩ := runCommand_cases row act s
  · rw [hnone] at h
    cases h
    exact .refl s
  · rw [hrun] at h
    cases h
    exact (GateChanges.trans (.of_gates rfl) (hact f.args (s.dequeue rest))).trans (.of_gates (State.answer_gates _ _ _ _))

theorem exec_gateChanges_of_command {c : Instr} {act : List Word → State → Answer × State}
    (hc : commandAction c = some act) (h : exec c s = .next t) : GateChanges s t :=
  runCommand_gateChanges (commandAction_gateChanges hc) ((exec_of_commandAction hc s).symm.trans h)

theorem execUnknownCommand_gates (h : execUnknownCommand s = .next t) : t.gates = s.gates := by
  unfold execUnknownCommand at h
  split at h
  · cases h; rfl
  · split at h
    · cases h; exact State.answer_gates _ _ _ _
    · cases h; rfl

theorem execClientInArrival_gates {l : Fin 16} {f : Frame} (h : execClientInArrival l f s = .next t) :
    t.gates = s.gates := by
  unfold execClientInArrival at h
  split at h
  · split at h
    · cases h; exact takeControl_gates _ _ _
    · cases h; rw [takeClient_gates, takeControl_gates]
    · cases h; exact takeClient_gates _ _ _
  · cases h; rfl

theorem execLineInArrival_gates {l : Fin 16} {f : Frame} {b : Bool} (h : execLineInArrival l f b s = .next t) :
    t.gates = s.gates := by
  unfold execLineInArrival at h
  simp only [] at h
  split at h
  · split at h
    · split_ifs at h <;> cases h <;> simp only [deliver_gates, forward_gates, countVerdict_gates]
    · cases h; rw [forward_gates, countVerdict_gates]
  · cases h; rfl

theorem execLineOutOpportunity_gates {l : Fin 16} (h : execLineOutOpportunity l s = .next t) : t.gates = s.gates := by
  unfold execLineOutOpportunity at h
  split at h
  · split at h
    · cases h; exact sendClient_gates s l
    · cases h; rw [serveLineOut_gates, paceLane_gates]
  · cases h; rfl

theorem execClientOutOpportunity_gates {l : Fin 16} (h : execClientOutOpportunity l s = .next t) :
    t.gates = s.gates := by
  unfold execClientOutOpportunity at h
  split at h
  · split at h
    · split at h
      · cases h; exact sendOutbound_gates s _ _
      · cases h; exact sendForwarded_gates s l
    · cases h; exact sendForwarded_gates s l
  · cases h; rfl

theorem execPacingExpiry_gates {i : Fin 256} (h : execPacingExpiry i s = .next t) : t.gates = s.gates := by
  unfold execPacingExpiry at h
  split at h
  · cases h; exact paceStream_gates s i
  · cases h; rfl

theorem execRateInjection_gates {i : Fin 256} {w : Word} (h : execRateInjection i w s = .next t) :
    t.gates = s.gates := by
  unfold execRateInjection at h
  simp only [] at h
  split at h <;> cases h <;> rfl

theorem execSilenceExpiry_gates {i : Fin 256} (h : execSilenceExpiry i s = .next t) : t.gates = s.gates := by
  unfold execSilenceExpiry at h
  split at h
  · cases h; exact expireSilence_gates s i
  · cases h; rfl

theorem execWipeCompletion_gates (h : execWipeCompletion s = .next t) : t.gates = s.gates := by
  unfold execWipeCompletion at h
  split at h
  · cases h; exact State.raiseDevice_gates _ _ _ _
  · cases h; rfl

theorem execResetRelease_gates {a : BitVec 6} {n : BitVec 2} (h : execResetRelease a n s = .next t) :
    t.gates = s.gates := by
  unfold execResetRelease at h
  split at h <;> cases h <;> rfl

/-- An event that does nothing under a reset and changes the gates as it says otherwise. -/
theorem running_gateChanges {u : State} (hu : GateChanges s u)
    (h : (if s.inReset then .next s else .next u : Result) = .next t) : GateChanges s t := by
  split at h
  · cases h; exact .refl s
  · cases h; exact hu

theorem execT1ms_gateChanges {order : List TickSite} (h : execT1ms order s = .next t) : GateChanges s t :=
  running_gateChanges (.trans (t := { s with ms := (s.ms + 1) % 1000 }) (.of_gates rfl)
    (foldl_gateChanges (fun s x => tickSite_gateChanges s _ x) _ _)) h

theorem execIntervalEnd_gateChanges {g : Fin 4} (h : execIntervalEnd g s = .next t) : GateChanges s t := by
  unfold execIntervalEnd at h
  split at h
  · cases h; exact countEvent_gateChanges s g _
  · cases h; exact .refl s

theorem execClearCompletion_gateChanges (h : execClearCompletion s = .next t) : GateChanges s t := by
  unfold execClearCompletion at h
  split at h
  · exact running_gateChanges (.of_gates (completeClear_gates s _)) h
  · cases h; exact .refl s

/-- What any event does to the gates. -/
theorem exec_gateChanges {c : Instr} (h : exec c s = .next t) : GateChanges s t := by
  cases c with
  | clientInArrival l f => exact .of_gates (execClientInArrival_gates h)
  | lineInArrival l f b => exact .of_gates (execLineInArrival_gates h)
  | lineOutOpportunity l => exact .of_gates (execLineOutOpportunity_gates h)
  | pacingExpiry i => exact .of_gates (execPacingExpiry_gates h)
  | rateInjection i w => exact .of_gates (execRateInjection_gates h)
  | clientOutOpportunity l => exact .of_gates (execClientOutOpportunity_gates h)
  | waitingReplyEntry => exact running_gateChanges (.of_gates (enterWaiting_gates s)) h
  | t1ms order => exact execT1ms_gateChanges h
  | t10ms order => exact running_gateChanges (tickGates_gateChanges s _ order) h
  | t100ms order => exact running_gateChanges (tickGates_gateChanges s _ order) h
  | t1s order => exact running_gateChanges (tickGates_gateChanges s _ order) h
  | syncIn order => exact running_gateChanges (foldl_gateChanges (fun s g => edgeGate_gateChanges s g _) _ s) h
  | silenceExpiry i => exact .of_gates (execSilenceExpiry_gates h)
  | intervalEnd g => exact execIntervalEnd_gateChanges h
  | gateOutPulseEnd => cases h; exact .of_gates rfl
  | clearCompletion => exact execClearCompletion_gateChanges h
  | wipeCompletion => exact .of_gates (execWipeCompletion_gates h)
  | hardwareReset => cases h; exact fun g => State.reset_gate g ▸ .single .reset
  | resetRelease a n => exact .of_gates (execResetRelease_gates h)
  | unknownCommand => exact .of_gates (execUnknownCommand_gates h)
  | _ => exact exec_gateChanges_of_command rfl h

/-! ## The law of the gates -/

theorem Gate.lawful_reset (g : Fin 4) : Gate.reset.lawful g := ⟨by decide, by decide, nofun, nofun⟩

/-- An interval end applies a pending length, which is in range, and starts the count anew (R139, R140). -/
theorem Gate.lawful.ended {x : Gate} {g : Fin 4} (hx : x.lawful g) (stop : Bool) : (x.ended stop).lawful g := by
  obtain ⟨hcount, hlen, hpending, hchain⟩ := hx
  cases hp : x.pendingLength with
  | none =>
    simp only [Gate.ended, Gate.nextInterval, hp]
    exact ⟨Nat.zero_lt_of_lt hcount, hlen, nofun, hchain⟩
  | some n =>
    obtain ⟨hlow, hhigh, -⟩ := hpending n hp
    simp only [Gate.ended, Gate.nextInterval, hp]
    exact ⟨hlow, hhigh, nofun, hchain⟩

/-- A change of a gate keeps it lawful. -/
theorem GateChange.lawful {g : Fin 4} {x y : Gate} (h : GateChange g x y) (hx : x.lawful g) : y.lawful g := by
  have hended := hx.ended
  obtain ⟨hcount, hlen, hpending, hchain⟩ := hx
  cases h with
  | configured src len m q marks hlow hhigh hsrc =>
    unfold Gate.configured
    split
    case isTrue => exact ⟨hlow, hhigh, nofun, hsrc⟩
    case isFalse hbusy =>
      refine ⟨hcount, hlen, fun n hn => ?_, hchain⟩
      split at hn
      · cases hn
      · cases hn; exact ⟨hlow, hhigh, hbusy⟩
  | armed hidle =>
    exact ⟨Nat.zero_lt_of_lt hcount, hlen, fun n hn => absurd hidle (hpending n hn).2.2, hchain⟩
  | opened =>
    refine ⟨hcount, hlen, fun n hn => ?_, hchain⟩
    obtain ⟨hlow, hhigh, -⟩ := hpending n hn
    exact ⟨hlow, hhigh, nofun⟩
  | counted _ hshort => exact ⟨Nat.lt_of_le_of_ne hcount hshort, hlen, hpending, hchain⟩
  | ended _ stop => exact hended stop
  | disarmed => exact ⟨hcount, hlen, nofun, hchain⟩
  | reset => exact Gate.lawful_reset g

theorem Gate.lawful.changes {x y : Gate} {g : Fin 4} (hx : x.lawful g) (h : Relation.ReflTransGen (GateChange g) x y) :
    y.lawful g := by
  induction h with
  | refl => exact hx
  | tail _ hchange hy => exact hchange.lawful hy

theorem GateChanges.gateLaw (h : GateChanges s t) (hs : GateLaw s) : GateLaw t := fun g => (hs g).changes (h g)

/-- Settles O53: every event is a chain of changes of each gate, and every change keeps its gate lawful. -/
theorem everyStepKeepsGateLaw : Obligations.EveryStepKeepsGateLaw := by
  unfold Obligations.EveryStepKeepsGateLaw
  intro s t hs h
  exact step_keeps (P := GateLaw) (fun _ _ hs => hs) (fun hexec hs => (exec_gateChanges hexec).gateLaw hs) hs h

end

end Sys2Proof.Machine
end

section
/-! SUPPORT. Count events, openings and the classification of a member's tick (R133, R137, R138). -/

namespace Sys2Proof.Machine

/-! ## The class of a tick -/

theorem tickClass_eq_severe {r : Stream} :
    tickClass r = .severe ↔ r.chk.tickUnlocked = false ∧ r.config.severeThreshold < r.chk.tickErrors.toNat := by
  unfold tickClass
  split_ifs with hunlocked hsevere <;> simp [*]

/-- The interval tick counters of a member after its tick, in the statement's words (R138). -/
theorem addTick_tickClass (r : Stream) :
    r.chk.ivl.addTick (tickClass r) =
      if r.chk.tickUnlocked then { r.chk.ivl with unavailTicks := satAdd r.chk.ivl.unavailTicks 1 }
      else if r.config.severeThreshold < r.chk.tickErrors.toNat then
        { r.chk.ivl with
          severeTicks := satAdd r.chk.ivl.severeTicks 1, erroredTicks := satAdd r.chk.ivl.erroredTicks 1 }
      else if 0 < r.chk.tickErrors.toNat then { r.chk.ivl with erroredTicks := satAdd r.chk.ivl.erroredTicks 1 }
      else r.chk.ivl := by
  unfold tickClass
  split_ifs <;> rfl

theorem tickClass_congr {r r' : Stream} (hconfig : r'.config = r.config) (hchk : r'.chk = r.chk) :
    tickClass r' = tickClass r := by
  rw [tickClass, tickClass, hconfig, hchk]

theorem Checker.afterTick_eq (c : Checker) (k : TickClass) :
    c.afterTick k =
      { c with ivl := c.ivl.addTick k, tickErrors := 0, tickUnlocked := decide (c.sync ≠ .locked) } := by
  rw [Checker.afterTick, bne_locked]

/-! ## One member's tick -/

section
variable (s : State) (i j : Fin 256)

/-- A member's tick replaces its checker part, and raises SEVERE_TICK when it is severe (R138). -/
theorem classifyMember_induction {P : State → Prop}
    (hset : P (s.setChk i ((s.stream i).chk.afterTick (tickClass (s.stream i)))))
    (hraise : ∀ t k, P t → P (t.raiseStream i k)) : P (classifyMember s i) := by
  unfold classifyMember
  simp only []
  split
  · exact hraise _ _ hset
  · exact hset

theorem classifyMember_ring : (classifyMember s i).ring = s.ring :=
  classifyMember_induction s i (P := fun t => t.ring = s.ring) rfl fun _ _ h => by rwa [State.raiseStream_ring]

theorem classifyMember_config : ((classifyMember s i).stream j).config = (s.stream j).config := by
  refine classifyMember_induction s i (P := fun t => (t.stream j).config = (s.stream j).config) ?_ fun _ _ h => ?_
  · rw [State.stream_setChk]
    split
    case isTrue hij => rw [hij]
    case isFalse => rfl
  · rwa [State.raiseStream_stream_config]

theorem classifyMember_gen : ((classifyMember s i).stream j).gen = (s.stream j).gen := by
  refine classifyMember_induction s i (P := fun t => (t.stream j).gen = (s.stream j).gen) ?_ fun _ _ h => ?_
  · rw [State.stream_setChk]
    split
    case isTrue hij => rw [hij]
    case isFalse => rfl
  · rwa [State.raiseStream_stream_gen]

theorem classifyMember_chk :
    ((classifyMember s i).stream j).chk =
      if i = j then (s.stream i).chk.afterTick (tickClass (s.stream i)) else (s.stream j).chk := by
  refine classifyMember_induction s i (P := fun t => (t.stream j).chk = _) ?_ fun _ _ h => ?_
  · rw [State.stream_setChk]
    split <;> rfl
  · rwa [State.raiseStream_stream_chk]

theorem classifyMember_eq :
    classifyMember s i =
      let c := (s.stream i).chk
      let severe := c.tickUnlocked = false ∧ (s.stream i).config.severeThreshold < c.tickErrors.toNat
      let ivl : Interval :=
        if c.tickUnlocked then { c.ivl with unavailTicks := satAdd c.ivl.unavailTicks 1 }
        else if severe then
          { c.ivl with severeTicks := satAdd c.ivl.severeTicks 1, erroredTicks := satAdd c.ivl.erroredTicks 1 }
        else if 0 < c.tickErrors.toNat then { c.ivl with erroredTicks := satAdd c.ivl.erroredTicks 1 }
        else c.ivl
      let t1 := s.setChk i { c with ivl := ivl, tickErrors := 0, tickUnlocked := decide (c.sync ≠ .locked) }
      if severe then t1.raiseStream i .severeTick else t1 := by
  unfold classifyMember
  simp only [tickClass_eq_severe, Checker.afterTick_eq, addTick_tickClass]
  cases (s.stream i).chk.tickUnlocked <;> simp

end

/-! ## Every member's tick -/

/-- The checkers after the ticks of a list of streams: each stream's tick is its own. -/
theorem foldl_classifyMember_chk {l : List (Fin 256)} (hl : l.Nodup) (s : State) (j : Fin 256) :
    ((l.foldl classifyMember s).stream j).chk =
      if j ∈ l then (s.stream j).chk.afterTick (tickClass (s.stream j)) else (s.stream j).chk := by
  induction l generalizing s with
  | nil => rfl
  | cons i l ih =>
    obtain ⟨hi, hl⟩ := List.nodup_cons.mp hl
    rw [List.foldl_cons, ih hl, classifyMember_chk]
    by_cases hij : i = j
    · subst hij
      rw [if_neg hi, if_pos rfl, if_pos List.mem_cons_self]
    · have hchk : ((classifyMember s i).stream j).chk = (s.stream j).chk := by rw [classifyMember_chk, if_neg hij]
      rw [if_neg hij, tickClass_congr (classifyMember_config s i j) hchk]
      exact if_congr (by simp [Ne.symm hij]) rfl rfl

theorem members_nodup (s : State) (g : Fin 4) : (members s g).Nodup := tableWhere_nodup _ _

theorem classifyMembers_chk (s : State) (g : Fin 4) (i : Fin 256) :
    ((classifyMembers s g).stream i).chk =
      if (s.stream i).config.gate = g ∧ (s.stream i).chk.sync ≠ .off then
        (s.stream i).chk.afterTick (tickClass (s.stream i))
      else (s.stream i).chk :=
  (foldl_classifyMember_chk (members_nodup s g) s i).trans (if_congr mem_members rfl rfl)

/-- Settles O26: a count event by the gate's state, an opening by its definition, the ticks one member after another. -/
theorem countEventsOpeningsAndTicks : Obligations.CountEventsOpeningsAndTicks := by
  unfold Obligations.CountEventsOpeningsAndTicks
  refine ⟨fun s g base => ⟨fun hg => countEventWith_of_idle hg, fun hg hq => ?_, fun hg hq => ?_,
      fun hg => countEventWith_of_opened hg⟩,
    fun s g => ⟨rfl, fun i => ?_⟩, fun s g => ⟨fun i => mem_members, members_increasing s g, ?_⟩, fun s g i => ?_⟩
  · rw [countEvent, countEventWith_of_armed hg, if_pos hq]
  · rw [countEvent, countEventWith_of_armed hg, if_neg (by rw [hq]; decide)]
  · exact (freshMembers_stream _ g i).trans (freshMember_eq g _)
  · exact congrArg (fun f => (members s g).foldl f s) (funext₂ classifyMember_eq)
  · refine ⟨?_, foldl_keeps s (fun t => (t.stream i).gen) (fun t k => classifyMember_gen t k i) _,
      classifyMembers_gates s g, foldl_keeps s State.ring classifyMember_ring _⟩
    rw [classifyMembers_chk, Checker.afterTick_eq, addTick_tickClass]

end Sys2Proof.Machine
end

section
/-! SUPPORT. SET_GATE (R135), START_GATE (R136), STOP_GATE (R142) and READ_GATE (R143). -/

namespace Sys2Proof.Machine

variable {s : State} {f : ControlFrame} {rest : List ControlFrame}

@[simp] theorem State.dequeue_gate (g : Fin 4) : (s.dequeue rest).gate g = s.gate g := rfl

/-! ## Codes -/

/-- A source code in range, as R132 lists them. -/
theorem gateSourceOf_eq (w : Word) :
    gateSourceOf w =
      if w = 0 then .t1ms else if w = 1 then .t10ms else if w = 2 then .t100ms else if w = 3 then .t1s
      else if w = 4 then .syncIn else .chain := by
  have hcode (n : Word) : w = n ↔ w.toNat = n.toNat := BitVec.toNat_inj.symm
  simp only [gateSourceOf, hcode]
  split <;> simp_all

theorem gateModeOf_eq (w : Word) : gateModeOf w = if w = 0 then .single else .repeated :=
  if_congr (BitVec.toNat_inj (y := 0)) rfl rfl

theorem qualifierOf_eq (w : Word) : qualifierOf w = if w = 0 then .nextCount else .syncEdge :=
  if_congr (BitVec.toNat_inj (y := 0)) rfl rfl

/-! ## SET_GATE -/

theorem Gate.sameFields_iff (x : Gate) (src : GateSource) (m : GateMode) (q : Qualifier) (marks : Bool) :
    x.sameFields src m q marks = true ↔ ¬ (x.source ≠ src ∨ x.mode ≠ m ∨ x.qualifier ≠ q ∨ x.marks ≠ marks) := by
  simp [Gate.sameFields, and_assoc]

theorem Gate.configured_of_idle {x : Gate} (h : x.state = .idle) (src : GateSource) (len : Nat) (m : GateMode)
    (q : Qualifier) (marks : Bool) :
    x.configured src len m q marks =
      { x with
        source := src, length := len, mode := m, qualifier := q, marks := marks, count := 0, pendingLength := none } :=
  if_pos h

theorem Gate.configured_of_busy {x : Gate} (h : x.state ≠ .idle) (src : GateSource) (len : Nat) (m : GateMode)
    (q : Qualifier) (marks : Bool) :
    x.configured src len m q marks = { x with pendingLength := if len = x.length then none else some len } :=
  if_neg h

/-- The state an accepted SET_GATE answers from an ARMED or OPEN gate (R135). -/
theorem Word.ofNat_gateState_of_busy {x : GateState} (h : x ≠ .idle) :
    Word.ofNat x.code = if x = .armed then 1 else 2 := by
  cases x with
  | idle => exact absurd rfl h
  | armed => rfl
  | opened => rfl

/-- The pending length an accepted SET_GATE answers, 0 when there is none (R135). -/
theorem pendingWord_of_length (x : Gate) (w : Word) (n : Nat) :
    pendingWord { x with pendingLength := if w.toNat = n then none else some w.toNat } =
      if w.toNat = n then 0 else w := by
  unfold pendingWord
  split
  · rfl
  · exact Word.ofNat_toNat w

/-- R135's checks in order, and what an accepted SET_GATE leaves and answers. -/
theorem finish_setGateAct (wg wsrc wlen wmode wqual wmarks : Word) (s : State) (f : ControlFrame)
    (rest : List ControlFrame) :
    finish f (setGateAct [wg, wsrc, wlen, wmode, wqual, wmarks] (s.dequeue rest)) =
      let g := index 4 wg
      let x := s.gate g
      let src := gateSourceOf wsrc
      let m := gateModeOf wmode
      let q := qualifierOf wqual
      let marks := decide (wmarks = 1)
      if 3 < wg.toNat then s.refuses f rest .outOfRange
      else if 5 < wsrc.toNat ∨ wlen.toNat < 1 ∨ 65535 < wlen.toNat ∨ 1 < wmode.toNat ∨ 1 < wqual.toNat
          ∨ 1 < wmarks.toNat then s.refuses f rest .outOfRange
      else if src = .chain ∧ g ≠ 1 ∧ g ≠ 3 then s.refuses f rest .outOfRange
      else if x.state = .idle then
        ((s.dequeue rest).setGate g
          { x with
            source := src, length := wlen.toNat, mode := m, qualifier := q, marks := marks, count := 0
            pendingLength := none }).replied f (.good [0, 0])
      else if x.source ≠ src ∨ x.mode ≠ m ∨ x.qualifier ≠ q ∨ x.marks ≠ marks then s.refuses f rest .gateState
      else
        ((s.dequeue rest).setGate g
          { x with pendingLength := if wlen.toNat = x.length then none else some wlen.toNat }).replied f
          (.good [if x.state = .armed then 1 else 2, if wlen.toNat = x.length then 0 else wlen]) := by
  simp only [setGateAct, finish_checked_cons, finish_checked_nil, finish_mk, State.dequeue_gate, inRange_iff]
  refine ite_pass_eq_ite_refuse (by omega) fun _ => ?_
  rw [← ite_and, ← ite_and, ← ite_and, ← ite_and]
  refine ite_pass_eq_ite_refuse (by omega) fun _ => ?_
  refine ite_pass_eq_ite_refuse (by simp [or_assoc, imp_iff_not_or]) fun _ => ?_
  by_cases hidle : (s.gate (index 4 wg)).state = .idle
  · rw [if_pos (by rw [hidle]; rfl), if_pos hidle, Gate.configured_of_idle hidle]
    simp only [hidle]
    rfl
  · rw [if_neg hidle]
    refine ite_pass_eq_ite_refuse ?_ fun _ => ?_
    · rw [Bool.or_eq_true, beq_iff_eq, or_iff_right hidle, Gate.sameFields_iff]
    · rw [Gate.configured_of_busy hidle, pendingWord_of_length, Word.ofNat_gateState_of_busy hidle]

/-! ## START_GATE and STOP_GATE -/

/-- R136's checks in order, and what an accepted START_GATE leaves and answers. -/
theorem finish_startGateAct (wg : Word) (s : State) (f : ControlFrame) (rest : List ControlFrame) :
    finish f (startGateAct [wg] (s.dequeue rest)) =
      let g := index 4 wg
      let x := s.gate g
      if 3 < wg.toNat then s.refuses f rest .outOfRange
      else if x.state ≠ .idle then s.refuses f rest .gateState
      else ((s.dequeue rest).setGate g { x with state := .armed, number := 0, count := 0 }).replied f (.good []) := by
  simp only [startGateAct, finish_checked_cons, finish_checked_nil, finish_mk, State.dequeue_gate, inRange_iff, beq_iff_eq]
  refine ite_pass_eq_ite_refuse (by omega) fun _ => ?_
  exact ite_pass_eq_ite_refuse not_not.symm fun _ => rfl

/-- R142's check, and what an accepted STOP_GATE leaves and answers. -/
theorem finish_stopGateAct (wg : Word) (s : State) (f : ControlFrame) (rest : List ControlFrame) :
    finish f (stopGateAct [wg] (s.dequeue rest)) =
      if 3 < wg.toNat then s.refuses f rest .outOfRange
      else
        (stopGate (s.dequeue rest) (index 4 wg)).replied f
          (.good [Word.ofNat (s.gate (index 4 wg)).state.code]) := by
  simp only [stopGateAct, finish_checked_cons, finish_checked_nil, finish_mk, State.dequeue_gate, inRange_iff]
  exact ite_pass_eq_ite_refuse (by omega) fun _ => rfl

/-! ## READ_GATE -/

/-- The members of a gate, counted (R143). -/
theorem members_length (s : State) (g : Fin 4) :
    (members s g).length =
      (indexes 256).countP (fun i => decide ((s.stream i).config.gate = g ∧ (s.stream i).chk.sync ≠ .off)) := by
  rw [members, tableWhere_eq_filter, ← List.countP_eq_length_filter]
  refine List.countP_congr fun i _ => ?_
  rw [decide_eq_true_iff, Stream.memberOf, Bool.and_eq_true, beq_iff_eq, Checker.active_iff]
  rfl

/-- R132's state codes as words. -/
theorem Word.ofNat_gateStateCode (x : GateState) :
    Word.ofNat x.code = match x with | .idle => 0 | .armed => 1 | .opened => 2 := by
  cases x <;> rfl

/-- R132's source codes as words. -/
theorem Word.ofNat_gateSourceCode (x : GateSource) :
    Word.ofNat x.code =
      match x with | .t1ms => 0 | .t10ms => 1 | .t100ms => 2 | .t1s => 3 | .syncIn => 4 | .chain => 5 := by
  cases x <;> rfl

/-- R132's mode codes as words. -/
theorem Word.ofNat_gateModeCode (m : GateMode) :
    Word.ofNat m.code = match m with | .single => 0 | .repeated => 1 := by
  cases m <;> rfl

/-- R132's qualifier codes as words. -/
theorem Word.ofNat_qualifierCode (q : Qualifier) :
    Word.ofNat q.code = match q with | .nextCount => 0 | .syncEdge => 1 := by
  cases q <;> rfl

theorem Word.ofNat_one_isSome {α : Type} (o : Option α) [Decidable (o = none)] :
    Word.ofNat (one o.isSome) = if o = none then 0 else 1 := by
  cases o with
  | none => rw [if_pos rfl]; rfl
  | some a => rw [if_neg nofun]; rfl

/-- R143's check, and READ_GATE's eleven words. -/
theorem finish_readGateAct (wg : Word) (s : State) (f : ControlFrame) (rest : List ControlFrame) :
    finish f (readGateAct [wg] (s.dequeue rest)) =
      if 3 < wg.toNat then s.refuses f rest .outOfRange
      else (s.dequeue rest).replied f (.good (gateWords s (index 4 wg))) := by
  simp only [readGateAct, finish_checked_cons, finish_checked_nil, finish_mk, inRange_iff]
  exact ite_pass_eq_ite_refuse (by omega) fun _ => rfl

/-- Settles O44, by the checks of each command in order, and READ_GATE's words one by one. -/
theorem setStartAndReadGate : Obligations.SetStartAndReadGate := by
  unfold Obligations.SetStartAndReadGate
  refine ⟨fun s f rest h => ⟨fun wg wsrc wlen wmode wqual wmarks hargs => ?_,
      fun hlen => h.exec_wrong_count rfl (beq_false_of_ne hlen)⟩,
    fun s f rest h => ⟨fun wg hargs => ?_, fun hlen => h.exec_wrong_count rfl (beq_false_of_ne hlen)⟩,
    fun s f rest h => ⟨fun wg hargs => ?_, fun hlen => h.exec_wrong_count rfl (beq_false_of_ne hlen)⟩⟩
  · have hexec : exec .setGate s =
        .next (finish f (setGateAct [wg, wsrc, wlen, wmode, wqual, wmarks] (s.dequeue rest))) :=
      hargs ▸ h.exec_eq (row := .setGate) rfl setGateAct
    rw [hexec, finish_setGateAct, gateSourceOf_eq, gateModeOf_eq, qualifierOf_eq]
  · have hexec : exec .startGate s = .next (finish f (startGateAct [wg] (s.dequeue rest))) :=
      hargs ▸ h.exec_eq (row := .startGate) rfl startGateAct
    rw [hexec, finish_startGateAct]
  · have hexec : exec .readGate s = .next (finish f (readGateAct [wg] (s.dequeue rest))) :=
      hargs ▸ h.exec_eq (row := .readGate) rfl readGateAct
    rw [finish_readGateAct, gateWords, pendingWord, members_length, Word.ofNat_gateStateCode,
      Word.ofNat_gateSourceCode, Word.ofNat_gateModeCode, Word.ofNat_qualifierCode, Word.ofNat_one_isSome,
      Word.ofNat_one] at hexec
    exact hexec

/-! ## STOP_GATE by the gate's state -/

theorem stopGate_of_idle {g : Fin 4} (hg : (s.gate g).state = .idle) : stopGate s g = s := by
  simp only [stopGate, hg]

theorem stopGate_of_armed {g : Fin 4} (hg : (s.gate g).state = .armed) :
    stopGate s g = s.setGate g { s.gate g with state := .idle, pendingLength := none } := by
  simp only [stopGate, hg]

theorem stopGate_of_opened {g : Fin 4} (hg : (s.gate g).state = .opened) :
    stopGate s g = intervalEnd g true s.pulses s := by
  simp only [stopGate, hg]

end Sys2Proof.Machine

/-! The model has a function of this name, so the theorem stands in a namespace of its own. -/

namespace Sys2Proof.Settled

open Sys2Proof.Machine

/-- Settles O45, by the state of the gate; a stopped gate's interval end leaves it IDLE in its next interval. -/
theorem stopGate : Obligations.StopGate := by
  unfold Obligations.StopGate
  refine fun s f rest h => ⟨fun wg hargs => ?_, fun hlen => h.exec_wrong_count rfl (beq_false_of_ne hlen)⟩
  have hexec : exec .stopGate s = .next (finish f (stopGateAct [wg] (s.dequeue rest))) :=
    hargs ▸ h.exec_eq (row := .stopGate) rfl stopGateAct
  rw [finish_stopGateAct] at hexec
  refine ⟨fun hwg => ?_, fun hwg hg => ?_, fun hwg hg => ?_, fun hwg hg => ⟨?_, ?_, ?_⟩⟩
  · rw [hexec, if_pos hwg]
  · rw [hexec, if_neg (Nat.not_lt.mpr hwg), stopGate_of_idle (s := s.dequeue rest) hg, hg]
    rfl
  · rw [hexec, if_neg (Nat.not_lt.mpr hwg), stopGate_of_armed (s := s.dequeue rest) hg, hg]
    rfl
  · rw [hexec, if_neg (Nat.not_lt.mpr hwg), stopGate_of_opened (s := s.dequeue rest) hg, hg]
    rfl
  · rw [intervalEnd_gate_self]
    simp only [Gate.ended, true_or, if_true]
  · rw [intervalEnd_gate_self]
    rfl

end Sys2Proof.Settled
end

section
/-! SUPPORT. Offers to the Result Ring (R148, R149). -/

namespace Sys2Proof.Machine

/-- An offer appends what fits into the free places (R148, step 1). -/
theorem Ring.take_length (r : Ring) (batch : List Record) :
    (r.take batch).records.length = r.records.length + min (Config.ringCapacity - r.records.length) batch.length := by
  rw [Ring.take, List.length_append, List.length_take]

/-- A ring within its capacity stays within it (R147). -/
theorem Ring.take_length_le {r : Ring} (h : r.records.length ≤ Config.ringCapacity) (batch : List Record) :
    (r.take batch).records.length ≤ Config.ringCapacity := by
  rw [Ring.take_length]
  omega

/-- RING_HIGH by the fill before the offer and the count appended, then RING_LOSS (R149). -/
theorem offer_eq (s : State) (batch : List Record) :
    offer s batch =
      let free := Config.ringCapacity - s.ring.records.length
      let taken := s.ring.take batch
      let high :=
        if s.ring.records.length < s.ring.highWater
            ∧ s.ring.highWater ≤ s.ring.records.length + min free batch.length then
          (s.setRing taken).raiseDevice .ringHigh 0 0
        else s.setRing taken
      if free < batch.length then high.raiseDevice .ringLoss taken.lost 0 else high := by
  simp only [offer, State.setRing_ring, Ring.take_length]

/-- Settles O28: the offer by the count appended, and the fill it leaves. -/
theorem offersToTheRing : Obligations.OffersToTheRing := by
  unfold Obligations.OffersToTheRing
  exact fun s batch hfill => ⟨offer_eq s batch, Ring.take_length_le hfill batch⟩

end Sys2Proof.Machine
end

section
/-! SUPPORT. FETCH_RESULTS (R151), RELEASE_RESULTS (R152), SET_RING (R153) and READ_RING (R154), and a record's words. -/

namespace Sys2Proof.Machine

/-! ## The words of a record -/

theorem toNat_append_eq_add {m n : Nat} (x : BitVec m) (y : BitVec n) :
    (x ++ y).toNat = x.toNat * 2 ^ n + y.toNat := by
  rw [BitVec.toNat_append, ← Nat.shiftLeft_add_eq_or_of_lt y.isLt, Nat.shiftLeft_eq]

theorem one_eq_toNat (b : Bool) : one b = b.toNat := by
  cases b <;> rfl

theorem SyncState.code_lt (x : SyncState) : x.code < 8 := by
  cases x <;> decide

/-- The first word of a record: each field fits its bits, so the sum overlaps nothing (section 2.3). -/
theorem recordHead_eq_append (r : Record) :
    BitVec.ofNat 32
        (r.stream.val * 2 ^ 24 + r.gate.val * 2 ^ 22 + r.endState.code * 2 ^ 19 + one r.partialEnd * 8
          + one r.lateStart * 4 + one r.unlockedSeen * 2 + one r.staleSeen) =
      (BitVec.ofNat 8 r.stream.val ++ BitVec.ofNat 2 r.gate.val ++ BitVec.ofNat 3 r.endState.code ++ 0#15
        ++ BitVec.ofBool r.partialEnd ++ BitVec.ofBool r.lateStart ++ BitVec.ofBool r.unlockedSeen
        ++ BitVec.ofBool r.staleSeen : BitVec 32) := by
  have hstate := r.endState.code_lt
  have hpartial := r.partialEnd.toNat_lt
  have hlate := r.lateStart.toNat_lt
  have hunlocked := r.unlockedSeen.toNat_lt
  have hstale := r.staleSeen.toNat_lt
  apply BitVec.eq_of_toNat_eq
  simp only [toNat_append_eq_add, BitVec.toNat_ofBool, one_eq_toNat, BitVec.toNat_ofNat]
  omega

/-! ## The commands -/

/-- R151's check, and FETCH_RESULTS's reply. -/
theorem finish_fetchResultsAct (k : Word) (s : State) (f : ControlFrame) (rest : List ControlFrame) :
    finish f (fetchResultsAct [k] (s.dequeue rest)) =
      let m := min k.toNat s.ring.records.length
      if k.toNat < 1 ∨ 8 < k.toNat then s.refuses f rest .outOfRange
      else
        (s.dequeue rest).replied f
          (.good ([Word.ofNat m, Word.ofNat s.ring.records.length] ++ (s.ring.records.take m).flatMap recordWords)) := by
  simp only [fetchResultsAct, finish_checked_cons, finish_checked_nil, finish_mk, State.dequeue_ring, inRange_iff]
  exact ite_pass_eq_ite_refuse (by omega) fun _ => rfl

/-- R152's checks in order, and what an accepted RELEASE_RESULTS leaves and answers. -/
theorem finish_releaseResultsAct (k : Word) (s : State) (f : ControlFrame) (rest : List ControlFrame) :
    finish f (releaseResultsAct [k] (s.dequeue rest)) =
      if k.toNat < 1 ∨ 1024 < k.toNat then s.refuses f rest .outOfRange
      else if s.ring.records.length < k.toNat then s.refuses f rest .ringShort
      else
        ((s.dequeue rest).setRing { s.ring with records := s.ring.records.drop k.toNat }).replied f
          (.good [Word.ofNat (s.ring.records.length - k.toNat)]) := by
  simp only [releaseResultsAct, finish_checked_cons, finish_checked_nil, finish_mk, State.dequeue_ring, inRange_iff]
  refine ite_pass_eq_ite_refuse (by omega) fun _ => ?_
  exact ite_pass_eq_ite_refuse (decide_eq_true_iff.trans Nat.not_lt.symm) fun _ => rfl

/-- R153's check, and what an accepted SET_RING leaves and answers. -/
theorem finish_setRingAct (m : Word) (s : State) (f : ControlFrame) (rest : List ControlFrame) :
    finish f (setRingAct [m] (s.dequeue rest)) =
      if m.toNat < 1 ∨ 1024 < m.toNat then s.refuses f rest .outOfRange
      else ((s.dequeue rest).setRing { s.ring with highWater := m.toNat }).replied f (.good [m]) := by
  simp only [setRingAct, finish_checked_cons, finish_checked_nil, finish_mk, State.dequeue_ring, inRange_iff]
  exact ite_pass_eq_ite_refuse (by omega) fun _ => rfl

/-- Settles O46, by the checks of each command in order, and a record's words field by field. -/
theorem ringCommands : Obligations.RingCommands := by
  unfold Obligations.RingCommands
  refine ⟨fun s f rest h => ⟨fun k hargs => ?_, fun hlen => h.exec_wrong_count rfl (beq_false_of_ne hlen)⟩,
    fun r => ⟨rfl, ?_⟩,
    fun s f rest h => ⟨fun k hargs => ?_, fun hlen => h.exec_wrong_count rfl (beq_false_of_ne hlen)⟩,
    fun s f rest h => ⟨fun m hargs => ?_, fun hlen => h.exec_wrong_count rfl (beq_false_of_ne hlen)⟩,
    fun s f rest h => ⟨fun hargs => ?_, fun hne => ?_⟩⟩
  · have hexec : exec .fetchResults s = .next (finish f (fetchResultsAct [k] (s.dequeue rest))) :=
      hargs ▸ h.exec_eq (row := .fetchResults) rfl fetchResultsAct
    rw [hexec, finish_fetchResultsAct]
  · rw [recordWords, recordHead_eq_append]
    rfl
  · have hexec : exec .releaseResults s = .next (finish f (releaseResultsAct [k] (s.dequeue rest))) :=
      hargs ▸ h.exec_eq (row := .releaseResults) rfl releaseResultsAct
    rw [hexec, finish_releaseResultsAct]
    rfl
  · have hexec : exec .setRing s = .next (finish f (setRingAct [m] (s.dequeue rest))) :=
      hargs ▸ h.exec_eq (row := .setRing) rfl setRingAct
    rw [hexec, finish_setRingAct]
    rfl
  · have hexec : exec .readRing s = .next (finish f (readRingAct [] (s.dequeue rest))) :=
      hargs ▸ h.exec_eq (row := .readRing) rfl readRingAct
    exact hexec
  · exact h.exec_wrong_count rfl (beq_false_of_ne fun hzero => hne (List.length_eq_zero_iff.mp hzero))

end Sys2Proof.Machine
end

section
/-! SUPPORT. What a step can do to the pending sets and the Pending Stream List (R156, R158): a chain of the changes listed
here. The list and the sets are kept by looking at each change once. -/

namespace Sys2Proof.Machine

/-! ## What is pending -/

/-- The Pending Stream List, the device set and every stream's set (R156, R158). -/
structure PendingSets where
  listed : List (Fin 256)
  device : KindSet
  sets : Fin 256 → KindSet

/-- Nothing is pending (R164). -/
def PendingSets.empty : PendingSets where
  listed := []
  device := 0
  sets _ := 0

/-- What is pending in a state. -/
def State.pendingSets (s : State) : PendingSets where
  listed := s.events.listed
  device := s.events.device
  sets i := (s.stream i).events

section
variable (s : State)

theorem State.pendingSets_congr {s t : State} (hevents : t.events = s.events) (hstreams : t.streams = s.streams) :
    t.pendingSets = s.pendingSets := by
  simp only [State.pendingSets, hevents, State.stream_congr hstreams]

@[simp] theorem State.setEvents_pendingSets (e : EventUnit) :
    (s.setEvents e).pendingSets = { s.pendingSets with listed := e.listed, device := e.device } := rfl

@[simp] theorem State.setStream_pendingSets (i : Fin 256) (r : Stream) :
    (s.setStream i r).pendingSets =
      { s.pendingSets with sets := Function.update s.pendingSets.sets i r.events } := by
  have hset (j : Fin 256) :
      ((s.setStream i r).stream j).events = Function.update s.pendingSets.sets i r.events j := by
    rw [State.stream_setStream, Function.update_apply]
    split_ifs with hij hji hji
    · rfl
    · exact absurd hij.symm hji
    · exact absurd hji.symm hij
    · rfl
  simp only [State.pendingSets, hset, State.setStream_events]

/-- A stream's record changes, and its set stays. -/
theorem State.setStream_pendingSets_of_eq {i : Fin 256} {r : Stream} (h : r.events = (s.stream i).events) :
    (s.setStream i r).pendingSets = s.pendingSets := by
  rw [State.setStream_pendingSets, h]
  exact congrArg (fun sets => { s.pendingSets with sets }) (Function.update_eq_self i s.pendingSets.sets)

@[simp] theorem State.setGen_pendingSets (i : Fin 256) (g : Generator) : (s.setGen i g).pendingSets = s.pendingSets :=
  s.setStream_pendingSets_of_eq rfl

@[simp] theorem State.setChk_pendingSets (i : Fin 256) (c : Checker) : (s.setChk i c).pendingSets = s.pendingSets :=
  s.setStream_pendingSets_of_eq rfl

@[simp] theorem State.mapStreams_pendingSets (f : Stream → Stream) :
    (s.mapStreams f).pendingSets = { s.pendingSets with sets := fun i => (f (s.stream i)).events } := by
  simp only [State.pendingSets, State.stream_mapStreams, State.mapStreams_events]

/-- Every record changes, and every set stays. -/
theorem State.mapStreams_pendingSets_of_eq {f : Stream → Stream} (h : ∀ r, (f r).events = r.events) :
    (s.mapStreams f).pendingSets = s.pendingSets := by
  simp only [State.mapStreams_pendingSets, h]
  rfl

@[simp] theorem State.notify_pendingSets (code : Nat) (scope : BitVec 16) (d1 d2 : Word) :
    (s.notify code scope d1 d2).pendingSets = s.pendingSets := by
  simp only [State.pendingSets, State.notify_listed, State.notify_device,
    State.stream_congr (State.notify_streams _ _ _ _ _)]

@[simp] theorem State.answer_pendingSets (f : ControlFrame) (echo : Byte) (a : Answer) :
    (s.answer f echo a).pendingSets = s.pendingSets :=
  State.pendingSets_congr (State.answer_events s f echo a) (State.answer_streams s f echo a)

@[simp] theorem engineReset_pendingSets : (engineReset s).pendingSets = .empty := by
  simp only [State.pendingSets, engineReset_stream]
  rfl

@[simp] theorem hardwareReset_pendingSets : (hardwareReset s).pendingSets = .empty := by
  simp only [State.pendingSets, hardwareReset_stream]
  rfl

end

/-! ## The changes -/

/-- What is pending before and after one change. -/
inductive PendingChange (p : PendingSets) : PendingSets → Prop
  /-- A device kind is raised (R158). -/
  | deviceRaised (k : DeviceKind) : PendingChange p { p with device := p.device.insert k.code }
  /-- Device kinds are acknowledged or withdrawn (R162, R163). -/
  | deviceRemoved (mask : KindSet) : PendingChange p { p with device := p.device.removeMask mask }
  /-- A stream kind is raised, and a stream whose set was empty joins the list (R158). -/
  | raised (i : Fin 256) (k : StreamKind) :
      PendingChange p
        { p with
          listed := if p.sets i = 0 then p.listed ++ [i] else p.listed
          sets := Function.update p.sets i ((p.sets i).insert k.code) }
  /-- A stream's kinds are acknowledged, and a stream whose set is emptied leaves the list (R158, R162). -/
  | acknowledged (i : Fin 256) (mask : KindSet) :
      PendingChange p
        { p with
          listed := if (p.sets i).removeMask mask = 0 then p.listed.filter (· != i) else p.listed
          sets := Function.update p.sets i ((p.sets i).removeMask mask) }
  /-- Kinds are withdrawn from every stream's set, and the streams whose sets are emptied leave the list (R163). -/
  | withdrawn (mask : KindSet) :
      PendingChange p
        { p with
          listed := p.listed.filter (fun i => (p.sets i).removeMask mask != 0)
          sets := fun i => (p.sets i).removeMask mask }
  /-- A reset (R164). -/
  | reset : PendingChange p .empty

/-- What is pending in `t` comes from what is pending in `s` by changes one after another. -/
def PendingChanges (s t : State) : Prop := Relation.ReflTransGen PendingChange s.pendingSets t.pendingSets

theorem PendingChanges.refl (s : State) : PendingChanges s s := Relation.ReflTransGen.refl

theorem PendingChanges.trans {s t u : State} (h : PendingChanges s t) (h' : PendingChanges t u) : PendingChanges s u :=
  Relation.ReflTransGen.trans h h'

theorem PendingChanges.of_eq {s t : State} (h : t.pendingSets = s.pendingSets) : PendingChanges s t := by
  rw [PendingChanges, h]

theorem PendingChanges.of_change {s t : State} {p : PendingSets} (h : PendingChange s.pendingSets p)
    (ht : t.pendingSets = p) : PendingChanges s t :=
  Relation.ReflTransGen.single (ht ▸ h)

theorem PendingChanges.congr_left {s t u : State} (h : PendingChanges t u) (ht : t.pendingSets = s.pendingSets) :
    PendingChanges s u :=
  (PendingChanges.of_eq ht).trans h

theorem PendingChanges.congr_right {s t u : State} (h : PendingChanges s t) (hu : u.pendingSets = t.pendingSets) :
    PendingChanges s u :=
  h.trans (.of_eq hu)

theorem foldl_pendingChanges {α : Type} {f : State → α → State} (h : ∀ s a, PendingChanges s (f s a)) (l : List α)
    (s : State) : PendingChanges s (l.foldl f s) := by
  induction l generalizing s with
  | nil => exact .refl s
  | cons a l ih => exact (h s a).trans (ih (f s a))

/-! ## Raises -/

section
variable (s : State)

theorem raiseDevice_pendingChanges (k : DeviceKind) (d1 d2 : Word) : PendingChanges s (s.raiseDevice k d1 d2) := by
  obtain ⟨-, h⟩ | ⟨-, ⟨-, h⟩ | ⟨-, h⟩⟩ := s.raiseDevice_cases k d1 d2
  · exact .of_eq (by rw [h])
  · exact .of_change (.deviceRaised k) (by rw [h, State.notify_pendingSets]; rfl)
  · exact .of_change (.deviceRaised k) (by rw [h]; rfl)

theorem raiseStream_pendingChanges (i : Fin 256) (k : StreamKind) : PendingChanges s (s.raiseStream i k) := by
  rw [State.raiseStream_eq]
  simp only []
  split
  · exact .refl s
  · refine .of_change (.raised i k) ?_
    split
    · rw [State.notify_pendingSets, State.setEvents_pendingSets, State.setStream_pendingSets]
      rfl
    · rw [State.setEvents_pendingSets, State.setStream_pendingSets]
      rfl

theorem raiseAll_pendingChanges (i : Fin 256) (ks : List StreamKind) : PendingChanges s (s.raiseAll i ks) :=
  foldl_pendingChanges (fun t k => raiseStream_pendingChanges t i k) ks s

/-! ## The checkers -/

theorem deliver_pendingChanges (i : Fin 256) (f : Frame) : PendingChanges s (deliver s i f) :=
  (raiseAll_pendingChanges _ i _).congr_left (s.setChk_pendingSets i _)

theorem expireSilence_pendingChanges (i : Fin 256) : PendingChanges s (expireSilence s i) := by
  unfold expireSilence
  simp only []
  split
  · exact .of_eq (s.setChk_pendingSets i _)
  · exact (raiseStream_pendingChanges _ i _).congr_left (s.setChk_pendingSets i _)

theorem tickChecker_pendingChanges (i : Fin 256) : PendingChanges s (tickChecker s i) := by
  unfold tickChecker
  simp only []
  split_ifs
  · exact expireSilence_pendingChanges s i
  · exact .of_eq (s.setChk_pendingSets i _)
  · exact .refl s

theorem restartChecker_pendingChanges (i : Fin 256) : PendingChanges s (restartChecker s i) := by
  unfold restartChecker
  simp only []
  split
  · exact (raiseStream_pendingChanges _ i _).congr_left (s.setChk_pendingSets i _)
  · exact .of_eq (s.setChk_pendingSets i _)

/-! ## Gates and ticks -/

theorem classifyMember_pendingChanges (i : Fin 256) : PendingChanges s (classifyMember s i) := by
  unfold classifyMember
  simp only []
  split
  · exact (raiseStream_pendingChanges _ i _).congr_left (s.setChk_pendingSets i _)
  · exact .of_eq (s.setChk_pendingSets i _)

theorem classifyMembers_pendingChanges (g : Fin 4) : PendingChanges s (classifyMembers s g) :=
  foldl_pendingChanges classifyMember_pendingChanges _ s

theorem freshMembers_pendingSets (g : Fin 4) : (freshMembers s g).pendingSets = s.pendingSets :=
  s.mapStreams_pendingSets_of_eq fun r => by split <;> rfl

theorem openGate_pendingSets (g : Fin 4) : (openGate s g).pendingSets = s.pendingSets := freshMembers_pendingSets _ g

theorem offerBatch_pendingChanges (g : Fin 4) (stop : Bool) : PendingChanges s (offerBatch s g stop) :=
  offerBatch_induction s g stop (.refl s) fun batch =>
    offer_induction s batch (.of_eq rfl) fun t k d1 d2 h => h.trans (raiseDevice_pendingChanges t k d1 d2)

theorem startPulse_pendingSets (g : Fin 4) (base : Nat) : (startPulse s g base).pendingSets = s.pendingSets := by
  unfold startPulse
  split <;> rfl

theorem endInterval_pendingChanges (g : Fin 4) (stop : Bool) (base : Nat) :
    PendingChanges s (endInterval g stop base s) := by
  refine .congr_right (.trans ?_ (raiseDevice_pendingChanges _ _ _ _)) (startPulse_pendingSets _ g base)
  exact (offerBatch_pendingChanges s g stop).congr_right (freshMembers_pendingSets (offerBatch s g stop) g)

theorem closeGate_pendingSets (g : Fin 4) (stop : Bool) : (closeGate g stop s).pendingSets = s.pendingSets := by
  rw [closeGate_eq]
  rfl

theorem endAlone_pendingChanges (g : Fin 4) (base : Nat) : PendingChanges s (endAlone g base s) :=
  (endInterval_pendingChanges s g false base).congr_right (closeGate_pendingSets _ g false)

theorem countEventWith_pendingChanges {atEnd : State → State} (hend : ∀ s, PendingChanges s (atEnd s)) (g : Fin 4) :
    PendingChanges s (countEventWith atEnd g s) := by
  have hcount : PendingChanges s (countedMembers s g) := (classifyMembers_pendingChanges _ g).congr_left rfl
  cases hg : (s.gate g).state with
  | idle =>
    rw [countEventWith_of_idle hg]
    exact .refl s
  | armed =>
    rw [countEventWith_of_armed hg]
    split
    · exact .of_eq (openGate_pendingSets s g)
    · exact .refl s
  | opened =>
    rw [countEventWith_of_opened hg]
    split
    · exact hcount.trans (hend _)
    · exact hcount

theorem feedPartner_pendingChanges (g : Fin 4) (base : Nat) : PendingChanges s (feedPartner g base s) := by
  unfold feedPartner
  split
  · exact countEventWith_pendingChanges s (fun s => endAlone_pendingChanges s _ base) _
  · exact .refl s

theorem intervalEnd_pendingChanges (g : Fin 4) (stop : Bool) (base : Nat) :
    PendingChanges s (intervalEnd g stop base s) :=
  ((endInterval_pendingChanges s g stop base).trans (feedPartner_pendingChanges _ g base)).congr_right
    (closeGate_pendingSets _ g stop)

theorem countEvent_pendingChanges (base : Nat) (g : Fin 4) : PendingChanges s (countEvent base g s) :=
  countEventWith_pendingChanges s (fun s => intervalEnd_pendingChanges s g false base) g

theorem tickGate_pendingChanges (source : GateSource) (base : Nat) (g : Fin 4) :
    PendingChanges s (tickGate source base s g) := by
  unfold tickGate
  split
  · exact countEvent_pendingChanges s base g
  · exact .refl s

theorem tickGates_pendingChanges (source : GateSource) (order : List (Fin 4)) :
    PendingChanges s (tickGates source order s) :=
  foldl_pendingChanges (fun s g => tickGate_pendingChanges s source _ g) _ s

theorem tickSite_pendingChanges (base : Nat) (x : TickSite) : PendingChanges s (tickSite base s x) := by
  cases x with
  | checker i => exact tickChecker_pendingChanges s i
  | gate g => exact tickGate_pendingChanges s .t1ms base g

theorem edgeGate_pendingChanges (base : Nat) (g : Fin 4) : PendingChanges s (edgeGate base s g) := by
  unfold edgeGate
  simp only []
  split_ifs
  · exact .of_eq (openGate_pendingSets s g)
  · exact countEvent_pendingChanges s base g
  · exact .refl s

theorem stopGate_pendingChanges (g : Fin 4) : PendingChanges s (stopGate s g) := by
  unfold stopGate
  split
  · exact .refl s
  · exact .of_eq rfl
  · exact intervalEnd_pendingChanges s g true _

/-! ## Generators and lanes -/

theorem paceStream_pendingChanges (i : Fin 256) : PendingChanges s (paceStream s i) := by
  unfold paceStream pacingReload
  simp only []
  split_ifs
  · exact (raiseStream_pendingChanges _ i _).congr_left (s.setGen_pendingSets i _)
  · exact .of_eq (s.setGen_pendingSets i _)
  · exact .of_eq (s.setGen_pendingSets i _)

theorem paceLane_pendingChanges (l : Fin 16) : PendingChanges s (paceLane s l) :=
  foldl_pendingChanges paceStream_pendingChanges _ s

theorem takeControl_pendingChanges (broadcast : Bool) (f : Frame) : PendingChanges s (takeControl s broadcast f) := by
  unfold takeControl
  split
  · exact .of_eq rfl
  · exact (raiseDevice_pendingChanges _ _ _ _).congr_left rfl

theorem takeClient_pendingChanges (l : Fin 16) (f : Frame) : PendingChanges s (takeClient s l f) := by
  unfold takeClient
  simp only []
  split_ifs
  · exact .of_eq rfl
  · exact .of_eq rfl
  · exact (raiseDevice_pendingChanges _ _ _ _).congr_left rfl

theorem forward_pendingChanges (l : Fin 16) (f : Frame) : PendingChanges s (forward s l f) :=
  forward_induction (fun _ => .of_eq rfl) (fun t k d1 d2 h => h.trans (raiseDevice_pendingChanges t k d1 d2)) f

theorem countVerdict_pendingSets (l : Fin 16) (v : Verdict) : (countVerdict s l v).pendingSets = s.pendingSets := by
  unfold countVerdict
  split
  · rfl
  · rfl
  · rfl
  · split <;> rfl
  · split_ifs <;> rfl

theorem sendClient_pendingSets (l : Fin 16) : (sendClient s l).pendingSets = s.pendingSets := by
  unfold sendClient
  simp only []
  split
  · split <;> rfl
  · rfl

theorem serveLineOut_pendingSets (l : Fin 16) : (serveLineOut s l).pendingSets = s.pendingSets := by
  unfold serveLineOut
  split
  · exact s.setGen_pendingSets _ _
  · exact sendClient_pendingSets s l

theorem enterWaiting_pendingSets : (enterWaiting s).pendingSets = s.pendingSets := by
  obtain ⟨r, -, -, h⟩ | ⟨-, h⟩ := enterWaiting_cases s <;> rw [h]
  rfl

theorem sendForwarded_pendingSets (l : Fin 16) : (sendForwarded s l).pendingSets = s.pendingSets := by
  unfold sendForwarded
  simp only []
  split <;> rfl

theorem sendOutbound_pendingSets (o : OutFrame) (rest : List OutFrame) :
    (sendOutbound s o rest).pendingSets = s.pendingSets :=
  enterWaiting_pendingSets _

theorem completeClear_pendingChanges (g : Fin 64) : PendingChanges s (completeClear s g) := by
  have hraise := raiseDevice_pendingChanges (s.setStore (s.store.finishClear g)) .clearDone 0 0
  exact (hraise.congr_left rfl).congr_right rfl

/-! ## The Event Unit -/

theorem ackDevice_pendingChanges (mask : KindSet) : PendingChanges s (ackDevice s mask) :=
  .of_change (.deviceRemoved mask) rfl

theorem ackStream_pendingChanges (i : Fin 256) (mask : KindSet) : PendingChanges s (ackStream s i mask) :=
  .of_change (.acknowledged i mask) (by rw [ackStream, State.setEvents_pendingSets, State.setStream_pendingSets]; rfl)

theorem withdrawKind_pendingChanges (k : Kind) : PendingChanges s (withdrawKind s k) := by
  cases k with
  | device k => exact ackDevice_pendingChanges s _
  | stream k =>
    refine .of_change (.withdrawn (kindBit k.code)) ?_
    simp only [withdrawKind, State.setEvents_pendingSets, State.mapStreams_pendingSets, State.stream_mapStreams]
    rfl

theorem setPolicy_pendingChanges (k : Kind) (p : Policy) : PendingChanges s (setPolicy s k p) := by
  unfold setPolicy
  simp only []
  split
  · exact (withdrawKind_pendingChanges _ k).congr_left rfl
  · exact .of_eq rfl

end

end Sys2Proof.Machine
end

section
/-! SUPPORT. The commands, and every other event, in the changes of what is pending. -/

namespace Sys2Proof.Machine

/-! ## The commands -/

section
variable {s : State}

/-- A command's checks in front of changes of what is pending: refused, it changes nothing. -/
theorem checked_pendingChanges {cs : List (Bool × Status)} {k : Answer × State} (h : PendingChanges s k.2) :
    PendingChanges s (checked cs s k).2 :=
  checked_keeps (.refl s) fun _ => h

/-- A command's checks in front of an action that leaves what is pending alone. -/
theorem checked_pendingSets {cs : List (Bool × Status)} {k : Answer × State} (h : k.2.pendingSets = s.pendingSets) :
    (checked cs s k).2.pendingSets = s.pendingSets :=
  checked_keeps (P := fun t => t.pendingSets = s.pendingSets) rfl fun _ => h

end

section
variable (ws : List Word) (s : State)

theorem resetEngineAct_pendingChanges : PendingChanges s (resetEngineAct ws s).2 := by
  unfold resetEngineAct
  split
  · exact .of_change .reset (engineReset_pendingSets s)
  · exact .refl s

theorem restartChkAct_pendingChanges : PendingChanges s (restartChkAct ws s).2 := by
  unfold restartChkAct
  split
  · exact checked_pendingChanges (restartChecker_pendingChanges s _)
  · exact .refl s

theorem stopGateAct_pendingChanges : PendingChanges s (stopGateAct ws s).2 := by
  unfold stopGateAct
  split
  · exact checked_pendingChanges (stopGate_pendingChanges s _)
  · exact .refl s

theorem ackEventsAct_pendingChanges : PendingChanges s (ackEventsAct ws s).2 := by
  unfold ackEventsAct
  split
  · split
    · exact checked_pendingChanges (ackDevice_pendingChanges s _)
    · exact checked_pendingChanges (ackStream_pendingChanges s _ _)
  · exact .refl s

theorem setEventPolicyAct_pendingChanges : PendingChanges s (setEventPolicyAct ws s).2 := by
  unfold setEventPolicyAct
  split
  · split
    · exact .refl s
    · exact checked_pendingChanges (setPolicy_pendingChanges s _ _)
  · exact .refl s

/-- A change of mode leaves every stream's pending set (R51). -/
theorem Stream.atModeChange_events (r : Stream) (l : Fin 16) (a b : EgressMode) :
    (r.atModeChange l a b).events = r.events := by
  unfold Stream.atModeChange
  split_ifs <;> rfl

end

/-- The command rows that can change what is pending: those that raise, acknowledge or withdraw kinds, and the reset of the
engine (R108, R142, R162, R163, R164). -/
def changesPending : Instr → Bool
  | .resetEngine | .restartChk | .stopGate | .ackEvents | .setEventPolicy => true
  | _ => false

/-- Every other command leaves what is pending alone. -/
theorem commandAction_pendingSets {c : Instr} {act : List Word → State → Answer × State} (h : commandAction c = some act)
    (hc : changesPending c = false) (ws : List Word) (s : State) : (act ws s).2.pendingSets = s.pendingSets := by
  cases c <;> cases h
  case resetEngine | restartChk | stopGate | ackEvents | setEventPolicy => cases hc
  case echo => rfl
  case identify | readRing | readEvents =>
    match ws with
    | [] => rfl
    | _ :: _ => rfl
  case wipeStore =>
    match ws with
    | [] => exact checked_pendingSets rfl
    | _ :: _ => rfl
  case setStream =>
    unfold setStreamAct
    split
    · exact checked_pendingSets (s.setStream_pendingSets_of_eq rfl)
    · rfl
  case clearCounts =>
    match ws with
    | [] | _ :: _ :: _ => rfl
    | [_] => exact checked_pendingSets (s.setStream_pendingSets_of_eq rfl)
  case startGen | stopGen | injectOne =>
    match ws with
    | [] | _ :: _ :: _ => rfl
    | [_] => exact checked_pendingSets (s.setGen_pendingSets _ _)
  case startChk | stopChk =>
    match ws with
    | [] | _ :: _ :: _ => rfl
    | [_] => exact checked_pendingSets (s.setChk_pendingSets _ _)
  case injectBurst =>
    match ws with
    | [] | [_] | _ :: _ :: _ :: _ => rfl
    | [_, _] => exact checked_pendingSets (s.setGen_pendingSets _ _)
  case setInject =>
    match ws with
    | [] | [_] | [_, _] | _ :: _ :: _ :: _ :: _ => rfl
    | [_, _, _] => exact checked_pendingSets (s.setGen_pendingSets _ _)
  case setLane =>
    match ws with
    | [] | [_] | [_, _] | _ :: _ :: _ :: _ :: _ => rfl
    | [_, _, _] => exact checked_pendingSets (s.mapStreams_pendingSets_of_eq fun r => r.atModeChange_events _ _ _)
  case readLane =>
    unfold readLaneAct
    split
    · refine checked_pendingSets ?_
      split <;> rfl
    · rfl
  case setWindow =>
    unfold setWindowAct
    split
    · split
      · rfl
      · exact checked_pendingSets (checked_pendingSets rfl)
    · rfl
  case loadWords =>
    unfold loadWordsAct
    split
    · split
      · exact checked_pendingSets rfl
      · rfl
    · rfl
  case readSegment | definePattern =>
    match ws with
    | [] | [_] | [_, _] | _ :: _ :: _ :: _ :: _ => rfl
    | [_, _, _] => exact checked_pendingSets rfl
  case setGate =>
    unfold setGateAct
    split
    · exact checked_pendingSets rfl
    · rfl
  all_goals
    match ws with
    | [] | _ :: _ :: _ => rfl
    | [_] => exact checked_pendingSets rfl

theorem commandAction_pendingChanges {c : Instr} {act : List Word → State → Answer × State}
    (h : commandAction c = some act) (ws : List Word) (s : State) : PendingChanges s (act ws s).2 := by
  cases hc : changesPending c with
  | false => exact .of_eq (commandAction_pendingSets h hc ws s)
  | true =>
    cases c with
    | resetEngine => cases h; exact resetEngineAct_pendingChanges ws s
    | restartChk => cases h; exact restartChkAct_pendingChanges ws s
    | stopGate => cases h; exact stopGateAct_pendingChanges ws s
    | ackEvents => cases h; exact ackEventsAct_pendingChanges ws s
    | setEventPolicy => cases h; exact setEventPolicyAct_pendingChanges ws s
    | _ => cases hc

/-! ## Every event -/

section
variable {s t : State}

theorem exec_pendingChanges_of_command {c : Instr} {act : List Word → State → Answer × State}
    (hc : commandAction c = some act) (h : exec c s = .next t) : PendingChanges s t := by
  rw [exec_of_commandAction hc] at h
  obtain hnone | ⟨f, rest, -, -, hrun⟩ := runCommand_cases c act s
  · rw [hnone] at h
    cases h
    exact .refl s
  · rw [hrun] at h
    cases h
    exact ((commandAction_pendingChanges hc f.args (s.dequeue rest)).congr_left rfl).congr_right
      (State.answer_pendingSets _ _ _ _)

/-- An event that does nothing unless its condition holds, and then leaves `u`. -/
theorem next_ite_pendingChanges {p : Prop} [Decidable p] {u : State} (hu : PendingChanges s u)
    (h : (if p then .next u else .next s : Result) = .next t) : PendingChanges s t := by
  split at h
  · cases h; exact hu
  · cases h; exact .refl s

/-- An event that does nothing under a reset, and leaves `u` otherwise. -/
theorem running_pendingChanges {u : State} (hu : PendingChanges s u)
    (h : (if s.inReset then .next s else .next u : Result) = .next t) : PendingChanges s t := by
  split at h
  · cases h; exact .refl s
  · cases h; exact hu

theorem execUnknownCommand_pendingSets (h : execUnknownCommand s = .next t) : t.pendingSets = s.pendingSets := by
  unfold execUnknownCommand at h
  split at h
  · cases h; rfl
  · split at h
    · cases h; exact State.answer_pendingSets _ _ _ _
    · cases h; rfl

theorem execClientInArrival_pendingChanges {l : Fin 16} {f : Frame} (h : execClientInArrival l f s = .next t) :
    PendingChanges s t := by
  unfold execClientInArrival at h
  split at h
  · split at h
    · cases h; exact takeControl_pendingChanges s false f
    · cases h; exact (takeControl_pendingChanges s true f).trans (takeClient_pendingChanges _ l f)
    · cases h; exact takeClient_pendingChanges s l f
  · cases h; exact .refl s

theorem execLineInArrival_pendingChanges {l : Fin 16} {f : Frame} {b : Bool} (h : execLineInArrival l f b s = .next t) :
    PendingChanges s t := by
  have hcount : PendingChanges s (countVerdict s l (classify s.window f)) := .of_eq (countVerdict_pendingSets s l _)
  have hforward := hcount.trans (forward_pendingChanges _ l f)
  have hdeliver := fun i => hcount.trans (deliver_pendingChanges _ i f)
  unfold execLineInArrival at h
  simp only [] at h
  split at h
  · split at h
    · split_ifs at h
      · cases h; exact hforward.trans (deliver_pendingChanges _ _ f)
      · cases h; exact (hdeliver _).trans (forward_pendingChanges _ l f)
      · cases h; exact hdeliver _
      · cases h; exact hforward
    · cases h; exact hforward
  · cases h; exact .refl s

theorem execLineOutOpportunity_pendingChanges {l : Fin 16} (h : execLineOutOpportunity l s = .next t) :
    PendingChanges s t := by
  unfold execLineOutOpportunity at h
  split at h
  · split at h
    · cases h; exact .of_eq (sendClient_pendingSets s l)
    · cases h; exact (paceLane_pendingChanges s l).congr_right (serveLineOut_pendingSets _ l)
  · cases h; exact .refl s

theorem execClientOutOpportunity_pendingSets {l : Fin 16} (h : execClientOutOpportunity l s = .next t) :
    t.pendingSets = s.pendingSets := by
  unfold execClientOutOpportunity at h
  split at h
  · split at h
    · split at h
      · cases h; exact sendOutbound_pendingSets s _ _
      · cases h; exact sendForwarded_pendingSets s l
    · cases h; exact sendForwarded_pendingSets s l
  · cases h; rfl

theorem execRateInjection_pendingSets {i : Fin 256} {w : Word} (h : execRateInjection i w s = .next t) :
    t.pendingSets = s.pendingSets := by
  unfold execRateInjection at h
  simp only [] at h
  split at h
  · cases h; exact s.setGen_pendingSets i _
  · cases h; rfl

theorem execT1ms_pendingChanges {order : List TickSite} (h : execT1ms order s = .next t) : PendingChanges s t :=
  running_pendingChanges (.trans (t := { s with ms := (s.ms + 1) % 1000 }) (.of_eq rfl)
    (foldl_pendingChanges (fun s x => tickSite_pendingChanges s _ x) _ _)) h

theorem execClearCompletion_pendingChanges (h : execClearCompletion s = .next t) : PendingChanges s t := by
  unfold execClearCompletion at h
  split at h
  · exact running_pendingChanges (completeClear_pendingChanges s _) h
  · cases h; exact .refl s

theorem execWipeCompletion_pendingChanges (h : execWipeCompletion s = .next t) : PendingChanges s t :=
  next_ite_pendingChanges (.trans (t := s.setStore s.store.finishWipe) (.of_eq rfl)
    (raiseDevice_pendingChanges _ _ _ _)) h

theorem execResetRelease_pendingSets {a : BitVec 6} {n : BitVec 2} (h : execResetRelease a n s = .next t) :
    t.pendingSets = s.pendingSets := by
  unfold execResetRelease at h
  split at h <;> cases h <;> rfl

/-- What any event does to what is pending. -/
theorem exec_pendingChanges {c : Instr} (h : exec c s = .next t) : PendingChanges s t := by
  cases c with
  | clientInArrival l f => exact execClientInArrival_pendingChanges h
  | lineInArrival l f b => exact execLineInArrival_pendingChanges h
  | lineOutOpportunity l => exact execLineOutOpportunity_pendingChanges h
  | pacingExpiry i => exact next_ite_pendingChanges (paceStream_pendingChanges s i) h
  | rateInjection i w => exact .of_eq (execRateInjection_pendingSets h)
  | clientOutOpportunity l => exact .of_eq (execClientOutOpportunity_pendingSets h)
  | waitingReplyEntry => exact running_pendingChanges (.of_eq (enterWaiting_pendingSets s)) h
  | t1ms order => exact execT1ms_pendingChanges h
  | t10ms order => exact running_pendingChanges (tickGates_pendingChanges s _ order) h
  | t100ms order => exact running_pendingChanges (tickGates_pendingChanges s _ order) h
  | t1s order => exact running_pendingChanges (tickGates_pendingChanges s _ order) h
  | syncIn order =>
    exact running_pendingChanges (foldl_pendingChanges (fun s g => edgeGate_pendingChanges s _ g) _ s) h
  | silenceExpiry i => exact next_ite_pendingChanges (expireSilence_pendingChanges s i) h
  | intervalEnd g => exact next_ite_pendingChanges (countEvent_pendingChanges s _ g) h
  | gateOutPulseEnd => cases h; exact .of_eq rfl
  | clearCompletion => exact execClearCompletion_pendingChanges h
  | wipeCompletion => exact execWipeCompletion_pendingChanges h
  | hardwareReset => cases h; exact .of_change .reset (hardwareReset_pendingSets s)
  | resetRelease a n => exact .of_eq (execResetRelease_pendingSets h)
  | unknownCommand => exact .of_eq (execUnknownCommand_pendingSets h)
  | _ => exact exec_pendingChanges_of_command rfl h

end

end Sys2Proof.Machine
end

section
/-! SUPPORT. The law of the pending sets and of the Pending Stream List (R156, R158), through every change. -/

namespace Sys2Proof.Machine

/-! ## Sets within their codes -/

/-- A set uses no bit outside the allowed ones (R156). -/
def KindSet.Within (set : KindSet) (allowed : Nat) : Prop := set &&& ~~~(BitVec.ofNat 16 allowed) = 0

section
variable {set : KindSet} {allowed : Nat}

theorem KindSet.Within.insert {code : Nat} (h : set.Within allowed) (hcode : (kindBit code).Within allowed) :
    (set.insert code).Within allowed := by
  unfold KindSet.Within at *
  rw [KindSet.insert, BitVec.and_comm, BitVec.and_or_distrib_left, BitVec.and_comm, h, BitVec.and_comm, hcode]
  rfl

theorem KindSet.Within.removeMask (h : set.Within allowed) (mask : KindSet) : (set.removeMask mask).Within allowed := by
  unfold KindSet.Within at *
  rw [KindSet.removeMask, BitVec.and_assoc, BitVec.and_comm (~~~mask), ← BitVec.and_assoc, h]
  exact BitVec.zero_and

theorem kindBit_streamKind_within (k : StreamKind) : (kindBit k.code).Within streamKindMask := by
  cases k <;> rfl

theorem kindBit_deviceKind_within (k : DeviceKind) : (kindBit k.code).Within deviceKindMask := by
  cases k <;> rfl

/-- A set that a kind has joined is not empty. -/
theorem KindSet.insert_ne_zero (set : KindSet) (k : StreamKind) : set.insert k.code ≠ 0 := by
  intro hzero
  have hcode : k.code < 16 := by cases k <;> decide
  have hhas := set.has_insert k.code k.code hcode
  rw [hzero] at hhas
  simp [KindSet.has] at hhas

/-- A set that keeps a kind when others are removed is not empty. -/
theorem KindSet.ne_zero_of_removeMask {mask : KindSet} (h : set.removeMask mask ≠ 0) : set ≠ 0 := by
  rintro rfl
  exact h BitVec.zero_and

end

/-! ## The law through every change -/

/-- The list holds exactly the streams whose set is not empty, each once, and the sets keep within their codes. -/
structure PendingSets.Lawful (p : PendingSets) : Prop where
  nodup : p.listed.Nodup
  mem : ∀ i, i ∈ p.listed ↔ p.sets i ≠ 0
  streams : ∀ i, (p.sets i).Within streamKindMask
  device : p.device.Within deviceKindMask

theorem pendingLaw_iff (s : State) : PendingLaw s ↔ s.pendingSets.Lawful :=
  ⟨fun ⟨hnodup, hmem, hstreams, hdevice⟩ => ⟨hnodup, hmem, hstreams, hdevice⟩,
    fun ⟨hnodup, hmem, hstreams, hdevice⟩ => ⟨hnodup, hmem, hstreams, hdevice⟩⟩

theorem PendingSets.lawful_empty : PendingSets.empty.Lawful where
  nodup := List.nodup_nil
  mem _ := ⟨fun h => absurd h List.not_mem_nil, fun h => absurd rfl h⟩
  streams _ := BitVec.zero_and
  device := BitVec.zero_and

/-- What holds of every set holds after one of them changes to one of which it holds. -/
theorem forall_update {Q : KindSet → Prop} {sets : Fin 256 → KindSet} {i : Fin 256} {set : KindSet} (hset : Q set)
    (h : ∀ j, Q (sets j)) (j : Fin 256) : Q (Function.update sets i set j) := by
  rw [Function.update_apply]
  split
  · exact hset
  · exact h j

/-- A stream joins the list when its set was empty, so no stream is listed twice (R158). -/
theorem PendingSets.Lawful.raised {p : PendingSets} (h : p.Lawful) (i : Fin 256) (k : StreamKind) :
    PendingSets.Lawful
      { p with
        listed := if p.sets i = 0 then p.listed ++ [i] else p.listed
        sets := Function.update p.sets i ((p.sets i).insert k.code) } where
  nodup := by
    dsimp only
    split
    case isTrue hempty =>
      have hnew : i ∉ p.listed := fun hi => (h.mem i).mp hi hempty
      exact List.concat_eq_append ▸ h.nodup.concat hnew
    case isFalse => exact h.nodup
  mem j := by
    have hfilled := KindSet.insert_ne_zero (p.sets i) k
    have hlisted := h.mem j
    dsimp only
    by_cases hji : j = i
    · subst hji
      rw [Function.update_self]
      split
      case isTrue => exact iff_of_true (List.mem_append_right _ (List.mem_singleton_self j)) hfilled
      case isFalse hheld => exact iff_of_true (hlisted.mpr hheld) hfilled
    · rw [Function.update_of_ne hji]
      split
      · simp [hlisted, hji]
      · exact hlisted
  streams :=
    forall_update (Q := (KindSet.Within · streamKindMask)) ((h.streams i).insert (kindBit_streamKind_within k)) h.streams
  device := h.device

/-- A stream leaves the list when its set is emptied, and stays in it while a kind is left (R158, R162). -/
theorem PendingSets.Lawful.acknowledged {p : PendingSets} (h : p.Lawful) (i : Fin 256) (mask : KindSet) :
    PendingSets.Lawful
      { p with
        listed := if (p.sets i).removeMask mask = 0 then p.listed.filter (· != i) else p.listed
        sets := Function.update p.sets i ((p.sets i).removeMask mask) } where
  nodup := by
    dsimp only
    split
    · exact h.nodup.filter _
    · exact h.nodup
  mem j := by
    have hlisted := h.mem j
    dsimp only
    by_cases hji : j = i
    · subst hji
      rw [Function.update_self]
      split
      case isTrue hemptied => exact iff_of_false (by simp) (not_not_intro hemptied)
      case isFalse hheld => exact iff_of_true (hlisted.mpr (KindSet.ne_zero_of_removeMask hheld)) hheld
    · rw [Function.update_of_ne hji]
      split
      · simp [hlisted, hji]
      · exact hlisted
  streams := forall_update (Q := (KindSet.Within · streamKindMask)) ((h.streams i).removeMask mask) h.streams
  device := h.device

/-- The streams whose sets are emptied leave the list, and a set that keeps a kind was listed before (R163). -/
theorem PendingSets.Lawful.withdrawn {p : PendingSets} (h : p.Lawful) (mask : KindSet) :
    PendingSets.Lawful
      { p with
        listed := p.listed.filter (fun i => (p.sets i).removeMask mask != 0)
        sets := fun i => (p.sets i).removeMask mask } where
  nodup := h.nodup.filter _
  mem i := by
    rw [List.mem_filter, bne_iff_ne, h.mem, and_iff_right_of_imp KindSet.ne_zero_of_removeMask]
  streams i := (h.streams i).removeMask mask
  device := h.device

theorem PendingChange.lawful {p q : PendingSets} (hchange : PendingChange p q) (h : p.Lawful) : q.Lawful := by
  cases hchange with
  | deviceRaised k => exact { h with device := h.device.insert (kindBit_deviceKind_within k) }
  | deviceRemoved mask => exact { h with device := h.device.removeMask mask }
  | raised i k => exact h.raised i k
  | acknowledged i mask => exact h.acknowledged i mask
  | withdrawn mask => exact h.withdrawn mask
  | reset => exact PendingSets.lawful_empty

theorem PendingSets.Lawful.changes {p q : PendingSets} (hp : p.Lawful) (h : Relation.ReflTransGen PendingChange p q) :
    q.Lawful := by
  induction h with
  | refl => exact hp
  | tail _ hchange hlawful => exact hchange.lawful hlawful

theorem PendingChanges.pendingLaw {s t : State} (h : PendingChanges s t) (hs : PendingLaw s) : PendingLaw t :=
  (pendingLaw_iff t).mpr (((pendingLaw_iff s).mp hs).changes h)

/-- Settles O51: every event is a chain of changes of what is pending, and every change keeps the list and the sets lawful. -/
theorem everyStepKeepsPendingListLaw : Obligations.EveryStepKeepsPendingListLaw := by
  unfold Obligations.EveryStepKeepsPendingListLaw
  intro s t hs h
  exact step_keeps (P := PendingLaw) (fun _ _ hs => hs) (fun hexec hs => (exec_pendingChanges hexec).pendingLaw hs) hs h

end Sys2Proof.Machine
end

section
/-! SUPPORT. READ_EVENTS (R161), ACK_EVENTS (R162) and SET_EVENT_POLICY (R163), and the codes and places of the kinds
(R156). -/

namespace Sys2Proof.Machine

variable {s : State} {f : ControlFrame} {rest : List ControlFrame}

/-! ## The kinds -/

/-- The kinds in the order of R156's table. -/
def Kind.all : Vector Kind 12 :=
  #v[.stream .lockGained, .stream .lockLost, .stream .stale, .stream .paceSlip, .stream .severeTick, .device .ringHigh,
    .device .ringLoss, .device .clearDone, .device .wipeDone, .device .cmdOverrun, .device .bufferDrop, .device .gateEnd]

theorem Kind.all_index (k : Kind) : Kind.all[k.index] = k := by
  cases k with
  | stream k => cases k <;> rfl
  | device k => cases k <;> rfl

/-- No two kinds have one place, so each has a policy of its own (R157). -/
theorem Kind.index_injective : Function.Injective Kind.index :=
  Function.LeftInverse.injective (g := fun n => Kind.all[n]) Kind.all_index

theorem Kind.ofCode_code (k : Kind) : Kind.ofCode k.code = some k := by
  cases k with
  | stream k => cases k <;> rfl
  | device k => cases k <;> rfl

/-- A code names the kind that has it (R156). -/
theorem Kind.ofCode_eq_some {n : Nat} {k : Kind} : Kind.ofCode n = some k ↔ k.code = n := by
  refine ⟨fun h => ?_, fun h => h ▸ k.ofCode_code⟩
  unfold Kind.ofCode at h
  split at h <;> cases h <;> rfl

theorem Kind.ofCode_eq_none {n : Nat} : Kind.ofCode n = none ↔ ∀ k : Kind, k.code ≠ n := by
  rw [Option.eq_none_iff_forall_ne_some]
  exact forall_congr' fun k => not_congr Kind.ofCode_eq_some

/-! ## ACK_EVENTS -/

theorem maskWithin_iff (mask : Word) (allowed : Nat) :
    maskWithin mask allowed = true ↔ ¬ mask &&& ~~~(BitVec.ofNat 32 allowed) ≠ 0 := by
  rw [maskWithin, beq_iff_eq, not_not]

@[simp] theorem ackStream_stream_events (s : State) (i : Fin 256) (mask : KindSet) :
    ((ackStream s i mask).stream i).events = (s.stream i).events.removeMask mask := by
  rw [ackStream, State.stream_congr (State.setEvents_streams _ _), State.stream_setStream, if_pos rfl]

/-- R162's checks in order, and what an accepted ACK_EVENTS leaves and answers. -/
theorem finish_ackEventsAct (scope mask : Word) (s : State) (f : ControlFrame) (rest : List ControlFrame) :
    finish f (ackEventsAct [scope, mask] (s.dequeue rest)) =
      let i := index 256 scope
      let mine := (s.stream i).events.removeMask (mask.setWidth 16)
      let device := s.events.device.removeMask (mask.setWidth 16)
      if scope = 0xFFFF then
        if mask &&& ~~~(0x7F00 : Word) ≠ 0 then s.refuses f rest .outOfRange
        else (ackDevice (s.dequeue rest) (mask.setWidth 16)).replied f (.good [device.setWidth 32])
      else if 255 < scope.toNat ∨ mask &&& ~~~(0x3E : Word) ≠ 0 then s.refuses f rest .outOfRange
      else (ackStream (s.dequeue rest) i (mask.setWidth 16)).replied f (.good [mine.setWidth 32]) := by
  by_cases hdevice : scope = 0xFFFF
  · simp only [ackEventsAct, if_pos hdevice, finish_checked_cons, finish_checked_nil, finish_mk]
    exact ite_pass_eq_ite_refuse (maskWithin_iff _ _) fun _ => rfl
  · simp only [ackEventsAct, if_neg hdevice, finish_checked_cons, finish_checked_nil, finish_mk, ackStream_stream_events,
      State.dequeue_stream, ← ite_and, inRange_iff, maskWithin_iff]
    refine ite_pass_eq_ite_refuse ?_ fun _ => rfl
    rw [not_or, Nat.not_lt, and_iff_right (Nat.zero_le _)]
    rfl

/-! ## SET_EVENT_POLICY -/

/-- A policy code in range, as R157 lists them. -/
theorem policyOf_eq (w : Word) : policyOf w = if w = 0 then .disabled else if w = 1 then .low else .high := by
  have hcode (n : Word) : w = n ↔ w.toNat = n.toNat := BitVec.toNat_inj.symm
  simp only [policyOf, hcode]
  split <;> simp_all

/-- What R163's checks refuse: a code of no kind, or a policy out of range. -/
theorem finish_setEventPolicyAct_of_refused {wk wp : Word} (h : (∀ k : Kind, k.code ≠ wk.toNat) ∨ 2 < wp.toNat) :
    finish f (setEventPolicyAct [wk, wp] (s.dequeue rest)) = s.refuses f rest .outOfRange := by
  cases hk : Kind.ofCode wk.toNat with
  | none => simp only [setEventPolicyAct, hk]; rfl
  | some k =>
    have hwp := h.resolve_left fun hnone => hnone k (Kind.ofCode_eq_some.mp hk)
    simp only [setEventPolicyAct, hk, finish_checked_cons]
    exact if_neg fun hrange => absurd ((inRange_iff _ _ _).mp hrange).2 (Nat.not_le.mpr hwp)

/-- What an accepted SET_EVENT_POLICY leaves and answers (R163). -/
theorem finish_setEventPolicyAct {wk wp : Word} {k : Kind} (hk : k.code = wk.toNat) (hwp : wp.toNat ≤ 2) :
    finish f (setEventPolicyAct [wk, wp] (s.dequeue rest)) =
      (setPolicy (s.dequeue rest) k (policyOf wp)).replied f (.good [Word.ofNat (s.policy k).code]) := by
  simp only [setEventPolicyAct, Kind.ofCode_eq_some.mpr hk, finish_checked_cons]
  exact if_pos ((inRange_iff _ _ _).mpr ⟨Nat.zero_le _, hwp⟩)

theorem setPolicy_of_ne_disabled {p : Policy} (h : p ≠ .disabled) (s : State) (k : Kind) :
    setPolicy s k p = s.setEvents { s.events with policies := s.events.policies.set k.index p } :=
  if_neg h

/-- A kind that becomes DISABLED is withdrawn: a device kind from the device set (R163). -/
theorem setPolicy_device_disabled (s : State) (k : DeviceKind) :
    setPolicy s (.device k) .disabled =
      s.setEvents
        { s.events with
          policies := s.events.policies.set (Kind.device k).index .disabled
          device := s.events.device.removeMask (kindBit k.code) } := rfl

/-- A stream kind from every stream's set, and the streams left with an empty set leave the list (R163). -/
theorem setPolicy_stream_disabled (s : State) (k : StreamKind) :
    setPolicy s (.stream k) .disabled =
      (s.mapStreams (fun r => { r with events := r.events.removeMask (kindBit k.code) })).setEvents
        { s.events with
          policies := s.events.policies.set (Kind.stream k).index .disabled
          listed := s.events.listed.filter (fun i => (s.stream i).events.removeMask (kindBit k.code) != 0) } := by
  simp only [setPolicy, withdrawKind, if_true, State.stream_mapStreams]
  rfl

/-- Settles O47, by the checks of each command in order, and a policy's change by whether it disables its kind. -/
theorem eventCommands : Obligations.EventCommands := by
  unfold Obligations.EventCommands
  refine ⟨rfl, fun s k => rfl, fun k l h => Kind.index_injective h,
    fun s f rest h => ⟨fun hargs => ?_, fun hne => ?_⟩,
    fun s f rest h => ⟨fun scope mask hargs => ?_, fun hlen => h.exec_wrong_count rfl (beq_false_of_ne hlen)⟩,
    fun s f rest h => ⟨fun wk wp hargs => ?_, fun hlen => h.exec_wrong_count rfl (beq_false_of_ne hlen)⟩⟩
  · have hexec : exec .readEvents s = .next (finish f (readEventsAct [] (s.dequeue rest))) :=
      hargs ▸ h.exec_eq (row := .readEvents) rfl readEventsAct
    exact hexec
  · exact h.exec_wrong_count rfl (beq_false_of_ne fun hzero => hne (List.length_eq_zero_iff.mp hzero))
  · have hexec : exec .ackEvents s = .next (finish f (ackEventsAct [scope, mask] (s.dequeue rest))) :=
      hargs ▸ h.exec_eq (row := .ackEvents) rfl ackEventsAct
    rw [hexec, finish_ackEventsAct]
    rfl
  · have hexec : exec .setEventPolicy s = .next (finish f (setEventPolicyAct [wk, wp] (s.dequeue rest))) :=
      hargs ▸ h.exec_eq (row := .setEventPolicy) rfl setEventPolicyAct
    refine ⟨fun hrefused => ?_, fun k hk hwp => ?_⟩
    · rw [hexec, finish_setEventPolicyAct_of_refused hrefused]
    · have hbefore : Word.ofNat (s.policy k).code =
          (match s.policy k with | .disabled => 0 | .low => 1 | .high => 2) := by
        cases s.policy k <;> rfl
      rw [hexec, finish_setEventPolicyAct hk hwp, hbefore, policyOf_eq]
      by_cases hzero : wp = 0
      · subst hzero
        cases k with
        | device k => rw [if_pos rfl, setPolicy_device_disabled]; rfl
        | stream k => rw [if_pos rfl, setPolicy_stream_disabled]; rfl
      · rw [setPolicy_of_ne_disabled (by split_ifs <;> decide)]
        simp only [if_pos hzero]
        rfl

end Sys2Proof.Machine
end

section
/-! SUPPORT. Which event a step takes (R166), and the agent's own commands IDENTIFY (R169) and ECHO (R170). -/

namespace Sys2Proof.Machine

variable {s : State} {f : ControlFrame} {rest : List ControlFrame}

/-! ## The event a step takes -/

/-- The events behind the one taken stay in the queue (log 1). -/
theorem step_pending_cons (c : Instr) (q : List Instr) (s : State) :
    step { s with pending := c :: q } = exec c { s with pending := q } := rfl

theorem nextExecution_of_ready (h : s.ready = some (f, rest)) : nextExecution s = some f.row := by
  rw [nextExecution, h]
  rfl

theorem nextExecution_of_not_ready (h : s.ready = none) : nextExecution s = none := by
  rw [nextExecution, h]
  rfl

/-- With no event pending the agent's next execution decides the step (log 3). -/
theorem step_of_pending_nil (h : s.pending = []) : step s = (nextExecution s).elim (.next s) (exec · s) := by
  rw [step, h]
  cases nextExecution s <;> rfl

/-- Settles O1: the step takes the front and leaves the rest, which is `s`'s own queue. -/
theorem stepRunsTheFrontCommand : Obligations.StepRunsTheFrontCommand := by
  unfold Obligations.StepRunsTheFrontCommand
  exact fun c s => step_pending_cons c s.pending s

/-- Settles O2, by whether the agent has a frame it can execute. -/
theorem stepWithNothingPending : Obligations.StepWithNothingPending := by
  unfold Obligations.StepWithNothingPending
  refine fun s hempty => ⟨fun f rest hready => ?_, fun hnone => ?_⟩
  · rw [step_of_pending_nil hempty, nextExecution_of_ready hready]
    rfl
  · rw [step_of_pending_nil hempty, nextExecution_of_not_ready hnone]
    rfl

/-! ## IDENTIFY and ECHO -/

/-- Settles O30: IDENTIFY by its argument count; ECHO accepts every count a frame can carry (R27, R29). -/
theorem identifyAndEcho : Obligations.IdentifyAndEcho := by
  unfold Obligations.IdentifyAndEcho
  refine ⟨fun s f rest h => ⟨fun hargs => ?_, fun hne => ?_⟩,
    fun s f rest h => ⟨f.args_length_le, h.exec_eq (row := .echo) rfl echoAct⟩⟩
  · have hexec : exec .identify s = .next (finish f (identifyAct [] (s.dequeue rest))) :=
      hargs ▸ h.exec_eq (row := .identify) rfl identifyAct
    exact hexec
  · exact h.exec_wrong_count rfl (beq_false_of_ne fun hzero => hne (List.length_eq_zero_iff.mp hzero))

end Sys2Proof.Machine
end

section
/-! SUPPORT. No event touches the queue of events (log 1): what the operations, the commands and the rows leave of it. -/

namespace Sys2Proof.Machine

variable (s : State)

/-! ## Checkers and generators -/

@[simp] theorem deliver_pending (i : Fin 256) (f : Frame) : (deliver s i f).pending = s.pending :=
  State.raiseAll_pending _ _ _

@[simp] theorem expireSilence_pending (i : Fin 256) : (expireSilence s i).pending = s.pending := by
  unfold expireSilence
  simp only []
  split
  · rfl
  · exact State.raiseStream_pending _ _ _

@[simp] theorem tickChecker_pending (i : Fin 256) : (tickChecker s i).pending = s.pending := by
  unfold tickChecker
  simp only []
  split_ifs
  · exact expireSilence_pending s i
  · rfl
  · rfl

@[simp] theorem restartChecker_pending (i : Fin 256) : (restartChecker s i).pending = s.pending := by
  unfold restartChecker
  simp only []
  split
  · exact State.raiseStream_pending _ _ _
  · rfl

@[simp] theorem classifyMember_pending (i : Fin 256) : (classifyMember s i).pending = s.pending :=
  classifyMember_induction s i (P := fun t => t.pending = s.pending) rfl fun t k h =>
    (t.raiseStream_pending i k).trans h

@[simp] theorem classifyMembers_pending (g : Fin 4) : (classifyMembers s g).pending = s.pending :=
  foldl_keeps s State.pending classifyMember_pending _

@[simp] theorem paceStream_pending (i : Fin 256) : (paceStream s i).pending = s.pending := by
  unfold paceStream pacingReload
  simp only []
  split_ifs
  · exact State.raiseStream_pending _ _ _
  · rfl
  · rfl

@[simp] theorem paceLane_pending (l : Fin 16) : (paceLane s l).pending = s.pending :=
  foldl_keeps s State.pending paceStream_pending _

/-! ## Gates and ticks -/

@[simp] theorem offerBatch_pending (g : Fin 4) (stop : Bool) : (offerBatch s g stop).pending = s.pending :=
  offerBatch_induction s g stop (P := fun t => t.pending = s.pending) rfl (offer_pending s)

@[simp] theorem endInterval_pending (g : Fin 4) (stop : Bool) (base : Nat) :
    (endInterval g stop base s).pending = s.pending := by
  refine endInterval_induction s g stop base (P := fun t => t.pending = s.pending) ?_ fun _ _ h => h
  rw [State.raiseDevice_pending]
  exact offerBatch_pending s g stop

@[simp] theorem closeGate_pending (g : Fin 4) (stop : Bool) : (closeGate g stop s).pending = s.pending := by
  rw [closeGate_eq]

@[simp] theorem endAlone_pending (g : Fin 4) (base : Nat) : (endAlone g base s).pending = s.pending := by
  rw [endAlone, closeGate_pending, endInterval_pending]

/-- A count event keeps the queue when the interval end it makes does. -/
theorem countEventWith_pending {atEnd : State → State} (hend : ∀ u, (atEnd u).pending = u.pending) (g : Fin 4) :
    (countEventWith atEnd g s).pending = s.pending := by
  have hcount : (countedMembers s g).pending = s.pending := classifyMembers_pending _ g
  cases hg : (s.gate g).state with
  | idle => rw [countEventWith_of_idle hg]
  | armed =>
    rw [countEventWith_of_armed hg]
    split <;> rfl
  | opened =>
    rw [countEventWith_of_opened hg]
    split
    · rw [hend, hcount]
    · exact hcount

@[simp] theorem feedPartner_pending (g : Fin 4) (base : Nat) : (feedPartner g base s).pending = s.pending := by
  unfold feedPartner
  split
  · exact countEventWith_pending s (fun u => endAlone_pending u _ base) _
  · rfl

@[simp] theorem intervalEnd_pending (g : Fin 4) (stop : Bool) (base : Nat) :
    (intervalEnd g stop base s).pending = s.pending := by
  rw [intervalEnd, closeGate_pending, feedPartner_pending, endInterval_pending]

@[simp] theorem countEvent_pending (base : Nat) (g : Fin 4) : (countEvent base g s).pending = s.pending :=
  countEventWith_pending s (fun u => intervalEnd_pending u g false base) g

@[simp] theorem tickGate_pending (source : GateSource) (base : Nat) (g : Fin 4) :
    (tickGate source base s g).pending = s.pending := by
  unfold tickGate
  split
  · exact countEvent_pending s base g
  · rfl

@[simp] theorem tickGates_pending (source : GateSource) (order : List (Fin 4)) :
    (tickGates source order s).pending = s.pending :=
  foldl_keeps s State.pending (fun u g => tickGate_pending u source _ g) _

@[simp] theorem tickSite_pending (base : Nat) (x : TickSite) : (tickSite base s x).pending = s.pending := by
  cases x with
  | checker i => exact tickChecker_pending s i
  | gate g => exact tickGate_pending s .t1ms base g

@[simp] theorem edgeGate_pending (base : Nat) (g : Fin 4) : (edgeGate base s g).pending = s.pending := by
  unfold edgeGate
  simp only []
  split_ifs
  · rfl
  · exact countEvent_pending s base g
  · rfl

@[simp] theorem stopGate_pending (g : Fin 4) : (stopGate s g).pending = s.pending := by
  unfold stopGate
  split
  · rfl
  · rfl
  · exact intervalEnd_pending s g true _

/-! ## Lanes and the agent -/

@[simp] theorem takeControl_pending (broadcast : Bool) (f : Frame) : (takeControl s broadcast f).pending = s.pending := by
  unfold takeControl
  split
  · rfl
  · exact State.raiseDevice_pending _ _ _ _

@[simp] theorem takeClient_pending (l : Fin 16) (f : Frame) : (takeClient s l f).pending = s.pending := by
  unfold takeClient
  simp only []
  split_ifs
  · rfl
  · rfl
  · exact State.raiseDevice_pending _ _ _ _

@[simp] theorem forward_pending (l : Fin 16) (f : Frame) : (forward s l f).pending = s.pending :=
  forward_induction (P := fun t => t.pending = s.pending) (fun _ => rfl)
    (fun t k d1 d2 h => (t.raiseDevice_pending k d1 d2).trans h) f

@[simp] theorem countVerdict_pending (l : Fin 16) (v : Verdict) : (countVerdict s l v).pending = s.pending := by
  unfold countVerdict
  split
  · rfl
  · rfl
  · rfl
  · split <;> rfl
  · split_ifs <;> rfl

@[simp] theorem sendClient_pending (l : Fin 16) : (sendClient s l).pending = s.pending := by
  unfold sendClient
  simp only []
  split
  · split <;> rfl
  · rfl

@[simp] theorem serveLineOut_pending (l : Fin 16) : (serveLineOut s l).pending = s.pending := by
  unfold serveLineOut
  split
  · rfl
  · exact sendClient_pending s l

@[simp] theorem enterWaiting_pending : (enterWaiting s).pending = s.pending := by
  obtain ⟨r, -, -, h⟩ | ⟨-, h⟩ := enterWaiting_cases s <;> rw [h]

@[simp] theorem sendForwarded_pending (l : Fin 16) : (sendForwarded s l).pending = s.pending := by
  unfold sendForwarded
  simp only []
  split <;> rfl

@[simp] theorem sendOutbound_pending (o : OutFrame) (rest : List OutFrame) :
    (sendOutbound s o rest).pending = s.pending :=
  enterWaiting_pending _

@[simp] theorem completeClear_pending (g : Fin 64) : (completeClear s g).pending = s.pending :=
  State.raiseDevice_pending _ _ _ _

@[simp] theorem setPolicy_pending (k : Kind) (p : Policy) : (setPolicy s k p).pending = s.pending := by
  unfold setPolicy
  simp only []
  split
  · cases k <;> rfl
  · rfl

/-! ## The commands -/

/-- A command's checks in front of an action that keeps the queue. -/
theorem checked_pending {cs : List (Bool × Status)} {s : State} {k : Answer × State} (h : k.2.pending = s.pending) :
    (checked cs s k).2.pending = s.pending :=
  checked_keeps (P := fun t => t.pending = s.pending) rfl fun _ => h

/-- No command touches the queue of events: it answers by its argument count, and then by its checks or its action. -/
theorem commandAction_pending {c : Instr} {act : List Word → State → Answer × State} (h : commandAction c = some act)
    (ws : List Word) (s : State) : (act ws s).2.pending = s.pending := by
  cases c <;> cases h
  case echo => rfl
  case identify | resetEngine | readRing | readEvents =>
    match ws with
    | [] | _ :: _ => rfl
  case wipeStore =>
    match ws with
    | [] => exact checked_pending rfl
    | _ :: _ => rfl
  case restartChk =>
    match ws with
    | [] | _ :: _ :: _ => rfl
    | [_] => exact checked_pending (restartChecker_pending s _)
  case stopGate =>
    match ws with
    | [] | _ :: _ :: _ => rfl
    | [_] => exact checked_pending (stopGate_pending s _)
  case injectBurst =>
    match ws with
    | [] | [_] | _ :: _ :: _ :: _ => rfl
    | [_, _] => exact checked_pending rfl
  case setInject | setLane | readSegment | definePattern =>
    match ws with
    | [] | [_] | [_, _] | _ :: _ :: _ :: _ :: _ => rfl
    | [_, _, _] => exact checked_pending rfl
  case readLane =>
    unfold readLaneAct
    split
    · refine checked_pending ?_
      split <;> rfl
    · rfl
  case setWindow =>
    unfold setWindowAct
    split
    · split
      · rfl
      · exact checked_pending (checked_pending rfl)
    · rfl
  case loadWords =>
    unfold loadWordsAct
    split
    · split
      · exact checked_pending rfl
      · rfl
    · rfl
  case ackEvents =>
    unfold ackEventsAct
    split
    · split <;> exact checked_pending rfl
    · rfl
  case setEventPolicy =>
    unfold setEventPolicyAct
    split
    · split
      · rfl
      · exact checked_pending (setPolicy_pending s _ _)
    · rfl
  case setStream =>
    unfold setStreamAct
    split
    · exact checked_pending rfl
    · rfl
  case setGate =>
    unfold setGateAct
    split
    · exact checked_pending rfl
    · rfl
  all_goals
    match ws with
    | [] | _ :: _ :: _ => rfl
    | [_] => exact checked_pending rfl

/-! ## Every event -/

/-- The event ends in a next state, with the queue of events as `s` has it. -/
def AnswersNext (s : State) (r : Result) : Prop := ∃ t, r = .next t ∧ t.pending = s.pending

variable {s}

theorem AnswersNext.of_next {t : State} (h : t.pending = s.pending) : AnswersNext s (.next t) := ⟨t, rfl, h⟩

/-- An event that does nothing. -/
theorem AnswersNext.idle (s : State) : AnswersNext s (.next s) := .of_next rfl

/-- Whichever way a condition of the event falls. -/
theorem AnswersNext.ite {p : Prop} [Decidable p] {r r' : Result} (h : AnswersNext s r) (h' : AnswersNext s r') :
    AnswersNext s (if p then r else r') := by
  split
  · exact h
  · exact h'

/-- An event that does nothing unless its condition holds. -/
theorem AnswersNext.when {p : Prop} [Decidable p] {t : State} (h : t.pending = s.pending) :
    AnswersNext s (if p then .next t else .next s) :=
  .ite (.of_next h) (.idle s)

/-- An event that does nothing under a reset. -/
theorem AnswersNext.running {t : State} (h : t.pending = s.pending) :
    AnswersNext s (if s.inReset then .next s else .next t) :=
  .ite (.idle s) (.of_next h)

theorem runCommand_answersNext {row : Instr} {act : List Word → State → Answer × State}
    (hact : ∀ ws s, (act ws s).2.pending = s.pending) : AnswersNext s (runCommand row act s) := by
  obtain hnone | ⟨f, rest, -, -, hrun⟩ := runCommand_cases row act s
  · rw [hnone]
    exact .idle s
  · rw [hrun]
    refine .of_next ?_
    rw [State.answer_pending, hact, State.dequeue_pending]

theorem exec_answersNext_of_command {c : Instr} {act : List Word → State → Answer × State}
    (h : commandAction c = some act) : AnswersNext s (exec c s) := by
  rw [exec_of_commandAction h]
  exact runCommand_answersNext (commandAction_pending h)

theorem execUnknownCommand_answersNext : AnswersNext s (execUnknownCommand s) := by
  unfold execUnknownCommand
  split
  · exact .idle s
  · exact .when (State.answer_pending _ _ _ _)

theorem execClientInArrival_answersNext (l : Fin 16) (f : Frame) : AnswersNext s (execClientInArrival l f s) := by
  refine .ite ?_ (.idle s)
  cases courseOf s l f with
  | own => exact .of_next (takeControl_pending s false f)
  | broadcast => exact .of_next ((takeClient_pending _ l f).trans (takeControl_pending s true f))
  | client => exact .of_next (takeClient_pending s l f)

theorem execLineInArrival_answersNext (l : Fin 16) (f : Frame) (b : Bool) :
    AnswersNext s (execLineInArrival l f b s) := by
  have hforward : AnswersNext s (.next (forward (countVerdict s l (classify s.window f)) l f)) := .of_next (by simp)
  refine .ite ?_ (.idle s)
  simp only []
  split
  · refine .ite (.ite (.ite (.of_next ?_) (.of_next ?_)) (.of_next ?_)) hforward <;> simp
  · exact hforward

theorem execLineOutOpportunity_answersNext (l : Fin 16) : AnswersNext s (execLineOutOpportunity l s) :=
  .ite (.ite (.of_next (sendClient_pending s l)) (.of_next (by simp))) (.idle s)

theorem execClientOutOpportunity_answersNext (l : Fin 16) : AnswersNext s (execClientOutOpportunity l s) := by
  have hforwarded : AnswersNext s (.next (sendForwarded s l)) := .of_next (sendForwarded_pending s l)
  refine .ite ?_ (.idle s)
  split
  · exact .ite (.of_next (sendOutbound_pending s _ _)) hforwarded
  · exact hforwarded

theorem execClearCompletion_answersNext : AnswersNext s (execClearCompletion s) := by
  unfold execClearCompletion
  split
  · exact .running (completeClear_pending s _)
  · exact .idle s

/-- Every event of the table answers a next state and keeps the queue. -/
theorem exec_answersNext (c : Instr) (s : State) : AnswersNext s (exec c s) := by
  cases c with
  | clientInArrival l f => exact execClientInArrival_answersNext l f
  | lineInArrival l f b => exact execLineInArrival_answersNext l f b
  | lineOutOpportunity l => exact execLineOutOpportunity_answersNext l
  | pacingExpiry i => exact .when (paceStream_pending s i)
  | rateInjection i w => exact .when rfl
  | clientOutOpportunity l => exact execClientOutOpportunity_answersNext l
  | waitingReplyEntry => exact .running (enterWaiting_pending s)
  | t1ms order => exact .running (foldl_keeps _ State.pending (fun u x => tickSite_pending u _ x) _)
  | t10ms order => exact .running (tickGates_pending s _ order)
  | t100ms order => exact .running (tickGates_pending s _ order)
  | t1s order => exact .running (tickGates_pending s _ order)
  | syncIn order => exact .running (foldl_keeps s State.pending (fun u g => edgeGate_pending u _ g) _)
  | silenceExpiry i => exact .when (expireSilence_pending s i)
  | intervalEnd g => exact .when (countEvent_pending s _ g)
  | gateOutPulseEnd => exact .of_next rfl
  | clearCompletion => exact execClearCompletion_answersNext
  | wipeCompletion => exact .when (State.raiseDevice_pending _ _ _ _)
  | hardwareReset => exact .of_next rfl
  | resetRelease a n => exact .when rfl
  | unknownCommand => exact execUnknownCommand_answersNext
  | _ => exact exec_answersNext_of_command rfl

/-- Settles O3: every row by its own lemma, the commands by their actions. -/
theorem everyCommandAnswersNext : Obligations.EveryCommandAnswersNext := by
  unfold Obligations.EveryCommandAnswersNext
  exact exec_answersNext

end Sys2Proof.Machine
end
